-- ==== Sys2Proof/Word.lean ====
section
/-! DEFINITION. The word types of IRDEC: pulse widths, times, codes, and the two event-word formats. -/

namespace Sys2Proof

/-- One byte of the register window (20_memory.md R60). -/
abbrev Byte := BitVec 8

/-- A pulse width in ticks, 16 bits unsigned (30_encoding.md R83). -/
abbrev Width := BitVec 16

/-- A host time in milliseconds, 64 bits unsigned (00_scope.md R18). -/
abbrev Time := BitVec 64

/-- A host scan code, 32 bits (00_scope.md R8). -/
abbrev ScanCode := BitVec 32

/-- A keycode, 16 bits (00_scope.md R8). -/
abbrev Keycode := BitVec 16

/-- An event word as the environment delivers it: P-format on the producer port, H-format on the host port
(30_encoding.md R80). -/
inductive EventWord where
  /-- A P-format word, 40 bits (R81). -/
  | p (bits : BitVec 40)
  /-- An H-format word, 136 bits (R82). -/
  | h (bits : BitVec 136)
deriving DecidableEq, Repr

end Sys2Proof
end

