-- ==== Sys2Proof/Config.lean ====
section
/-! DEFINITION. The parameters of IRDEC (00_scope.md R6, R7, R8), their defaults, and the OPEN durations. -/

namespace Sys2Proof

/-- A window `X_LO`/`X_HI` of widths in ticks, read half-open, `X_LO <= w < X_HI` (R6). -/
structure Window where
  lo : Nat
  hi : Nat
deriving DecidableEq, Repr

/-- The policy class of a keycode (R8, 47_host_classifier.md R202). -/
inductive KeyClass where
  /-- `Repeat`: fires while held, ever faster. -/
  | repeatKey
  /-- `Power`: fires shutdown on release after a long hold. -/
  | powerKey
  /-- `Digit d`, `d` in 0..9. -/
  | digitKey (d : Fin 10)
  /-- `Generic`: fires once per press. -/
  | genericKey
deriving DecidableEq, Repr

/-- One entry of the KeyBinding table (R8). -/
structure Binding where
  scancode : ScanCode
  keycode : Keycode
  command : String
deriving DecidableEq, Repr

/-- Every parameter of R6, R7 and R8: each number has a default, and the table, the key classes and the two rotary codes are
OPEN (92_eei_decisions.md section 5: "The model takes each of these as an argument"). The OPEN durations stand below, under
`Config`. State carries one such record; no event writes it (20_memory.md R71; log entry 5).
Where a rule writes a default as a number, the model reads the parameter of that name (log entry 8). -/
structure Params where
  /-- `TICK_US`, the length of a tick in microseconds; it enters no transition rule (R9) -/
  tickUs : Nat
  /-- `RC5_LEAD_LO`, `RC5_LEAD_HI` -/
  rc5Lead : Window
  /-- `SIRC_LEAD_LO`, `SIRC_LEAD_HI` -/
  sircLead : Window
  /-- `NECR_LEAD_LO`, `NECR_LEAD_HI` -/
  necrLead : Window
  /-- `NEC_LEAD_LO`, `NEC_LEAD_HI` -/
  necLead : Window
  /-- `NEC_BIT_LO`, `NEC_BIT_HI` -/
  necBit : Window
  /-- `NEC_THR` -/
  necThr : Nat
  /-- `NEC_BITS`, the bits of an NEC frame -/
  necBits : Nat
  /-- `SIRC_BIT_LO`, `SIRC_BIT_HI` -/
  sircBit : Window
  /-- `SIRC_THR` -/
  sircThr : Nat
  /-- `SIRC_BITS`, legal values 12, 15, 20 -/
  sircBits : Nat
  /-- `RC5_1T_LO`, `RC5_1T_HI` -/
  rc5T1 : Window
  /-- `RC5_15T_LO`, `RC5_15T_HI` -/
  rc5T15 : Window
  /-- `RC5_2T_LO`, `RC5_2T_HI` -/
  rc5T2 : Window
  /-- `RC5_BITS`, the bits of an RC5 frame -/
  rc5Bits : Nat
  /-- `CNT_MAX`, where the counter saturates; it has the width of `CNT` -/
  cntMax : BitVec 5
  /-- `SCAN_SENTINEL`, the released scan channel -/
  scanSentinel : BitVec 24
  /-- `NEC_INVALID`, the code of a frame that fails both checksums -/
  necInvalid : BitVec 24
  /-- `BTN_SENTINEL`, the released button channel -/
  btnSentinel : BitVec 32
  /-- `RAMP_INIT`, ms -/
  rampInit : Nat
  /-- `RAMP_NUM` -/
  rampNum : Nat
  /-- `RAMP_DEN` -/
  rampDen : Nat
  /-- `RAMP_FLOOR`, ms -/
  rampFloor : Nat
  /-- `HOLD_MS` -/
  holdMs : Nat
  /-- `TAP_MS` -/
  tapMs : Nat
  /-- `RUN_MAX`, the digits of a run -/
  runMax : Nat
  /-- `TABLE_MAX`, the entries of a table -/
  tableMax : Nat
  /-- `ROT_A_CODE` -/
  rotACode : ScanCode
  /-- `ROT_B_CODE` -/
  rotBCode : ScanCode
  /-- `TABLE`; `none` is a missing or malformed table (60_exceptions.md R234). -/
  table : Option (List Binding)
  /-- `KEYCLASS`, as the list of the keycodes that are not `Generic` (log entry 6). -/
  keyClasses : List (Keycode × KeyClass)
  /-- whether the host's timer subsystem came up (60_exceptions.md R235) -/
  timerOk : Bool
deriving DecidableEq, Repr

namespace Config

/-- `IR_TIMEOUT_TICKS` (R6): OPEN, enters no rule (70_reset_and_hazards.md R276; log entry 7). -/
opaque irTimeoutTicks : Nat

/-- `ROT_TIMEOUT_TICKS` (R6): OPEN, enters no rule (log entry 7). -/
opaque rotTimeoutTicks : Nat

/-- `BTN_TICK_PERIOD` (R6): OPEN, enters no rule (log entry 7). -/
opaque btnTickPeriod : Nat

/-- `WAIT_MS` (R7): OPEN, enters no rule (47_host_classifier.md R222; log entry 7). -/
opaque waitMs : Nat

/-- The test configuration's `TABLE` (95_test_vectors.md, head). DESIGN CHOICE: the value State.reset carries (log entry 5). -/
def testTable : List Binding :=
  [ ⟨0x0000000C, 115, "volume +"⟩,
    ⟨0x00000040, 116, "power"⟩,
    ⟨0x00000044, 28, "ok"⟩,
    ⟨0x00000003, 515, "3"⟩,
    ⟨0x00000004, 516, "4"⟩,
    ⟨0x01000020, 115, "volume +"⟩,
    ⟨0x00000101, 28, "ok"⟩,
    ⟨0x00001175, 28, "ok"⟩ ]

/-- The test configuration's `KEYCLASS` (95_test_vectors.md, head): `Digit (k - 512)` for 512 to 521. -/
def testKeyClasses : List (Keycode × KeyClass) :=
  [ (115, .repeatKey), (116, .powerKey),
    (512, .digitKey 0), (513, .digitKey 1), (514, .digitKey 2), (515, .digitKey 3), (516, .digitKey 4),
    (517, .digitKey 5), (518, .digitKey 6), (519, .digitKey 7), (520, .digitKey 8), (521, .digitKey 9) ]

end Config

/-- The default of every parameter (R6, R7), with the test configuration where the spec leaves the parameter OPEN. -/
def Params.default : Params where
  tickUs := 2
  rc5Lead := ⟨750, 1050⟩
  sircLead := ⟨1400, 1600⟩
  necrLead := ⟨5060, 6190⟩
  necLead := ⟨6190, 7310⟩
  necBit := ⟨450, 1350⟩
  necThr := 800
  necBits := 32
  sircBit := ⟨500, 1000⟩
  sircThr := 750
  sircBits := 12
  rc5T1 := ⟨750, 1050⟩
  rc5T15 := ⟨1150, 1550⟩
  rc5T2 := ⟨1550, 2000⟩
  rc5Bits := 14
  cntMax := 31
  scanSentinel := 0xFFFFFF
  necInvalid := 0x000000
  btnSentinel := 0x00000000
  rampInit := 500
  rampNum := 85
  rampDen := 100
  rampFloor := 100
  holdMs := 800
  tapMs := 1000
  runMax := 3
  tableMax := 64
  rotACode := 0x01000020
  rotBCode := 0x01000040
  table := some Config.testTable
  keyClasses := Config.testKeyClasses
  timerOk := true

end Sys2Proof
end

