-- ==== Sys2Proof/Syntax.lean ====
section
/-! DEFINITION. The events of IRDEC (00_scope.md R3, 30_encoding.md R87) and the rows of the `PULSE` transition table (R95):
one constructor per row of opcode_table.json. -/

namespace Sys2Proof

/-- The 19 rows of the decoder's transition table (30_encoding.md R95), each named by `DSTATE` and width class. -/
inductive PulseRow where
  | idleLRc5 | idleLSirc | idleLNecr | idleLNec | idleLNoise
  | necCollectN0 | necCollectN1 | necCollectOut
  | sircCollectS0 | sircCollectS1 | sircCollectOut
  | rc5Mid1T1 | rc5Mid1T15 | rc5Mid1T2
  | rc5Start0T1 | rc5Start0T15 | rc5Start0T2
  | rc5Out
  | transientAny
deriving DecidableEq, Repr

/-- The instructions. The first twenty all stand for the word `PULSE w` (opcode_table.json: the `PULSE.*` rows "share this
match and mask"): `pulse` is the event, and each of the next nineteen is the event taken at its row of R95 (log entry 4). -/
inductive Instr where
  | pulse (w : Width)
  | pulseIdleLRc5 (w : Width)
  | pulseIdleLSirc (w : Width)
  | pulseIdleLNecr (w : Width)
  | pulseIdleLNec (w : Width)
  | pulseIdleLNoise (w : Width)
  | pulseNecCollectN0 (w : Width)
  | pulseNecCollectN1 (w : Width)
  | pulseNecCollectOut (w : Width)
  | pulseSircCollectS0 (w : Width)
  | pulseSircCollectS1 (w : Width)
  | pulseSircCollectOut (w : Width)
  | pulseRc5Mid1T1 (w : Width)
  | pulseRc5Mid1T15 (w : Width)
  | pulseRc5Mid1T2 (w : Width)
  | pulseRc5Start0T1 (w : Width)
  | pulseRc5Start0T15 (w : Width)
  | pulseRc5Start0T2 (w : Width)
  | pulseRc5Out (w : Width)
  | pulseTransientAny (w : Width)
  | irto
  | rota
  | rotb
  | rotto
  | btne (id : BitVec 32)
  | btnt (level : Bool)
  | consume
  | read
  | prst
  | hsnap (now : Time) (snap : BitVec 64)
  | htmr (now : Time)
  | hrst
  | hwaitto (now : Time)
  | hfault (now : Time)
deriving DecidableEq, Repr

/-- The instruction that names a row of R95, with its width. -/
def PulseRow.instr (r : PulseRow) (w : Width) : Instr :=
  match r with
  | .idleLRc5 => .pulseIdleLRc5 w
  | .idleLSirc => .pulseIdleLSirc w
  | .idleLNecr => .pulseIdleLNecr w
  | .idleLNec => .pulseIdleLNec w
  | .idleLNoise => .pulseIdleLNoise w
  | .necCollectN0 => .pulseNecCollectN0 w
  | .necCollectN1 => .pulseNecCollectN1 w
  | .necCollectOut => .pulseNecCollectOut w
  | .sircCollectS0 => .pulseSircCollectS0 w
  | .sircCollectS1 => .pulseSircCollectS1 w
  | .sircCollectOut => .pulseSircCollectOut w
  | .rc5Mid1T1 => .pulseRc5Mid1T1 w
  | .rc5Mid1T15 => .pulseRc5Mid1T15 w
  | .rc5Mid1T2 => .pulseRc5Mid1T2 w
  | .rc5Start0T1 => .pulseRc5Start0T1 w
  | .rc5Start0T15 => .pulseRc5Start0T15 w
  | .rc5Start0T2 => .pulseRc5Start0T2 w
  | .rc5Out => .pulseRc5Out w
  | .transientAny => .pulseTransientAny w

/-- The event an instruction stands for: `PULSE w` for a row of R95, and every event for itself. -/
def Instr.event (i : Instr) : Instr :=
  match i with
  | .pulse w => .pulse w
  | .pulseIdleLRc5 w => .pulse w
  | .pulseIdleLSirc w => .pulse w
  | .pulseIdleLNecr w => .pulse w
  | .pulseIdleLNec w => .pulse w
  | .pulseIdleLNoise w => .pulse w
  | .pulseNecCollectN0 w => .pulse w
  | .pulseNecCollectN1 w => .pulse w
  | .pulseNecCollectOut w => .pulse w
  | .pulseSircCollectS0 w => .pulse w
  | .pulseSircCollectS1 w => .pulse w
  | .pulseSircCollectOut w => .pulse w
  | .pulseRc5Mid1T1 w => .pulse w
  | .pulseRc5Mid1T15 w => .pulse w
  | .pulseRc5Mid1T2 w => .pulse w
  | .pulseRc5Start0T1 w => .pulse w
  | .pulseRc5Start0T15 w => .pulse w
  | .pulseRc5Start0T2 w => .pulse w
  | .pulseRc5Out w => .pulse w
  | .pulseTransientAny w => .pulse w
  | .irto => .irto
  | .rota => .rota
  | .rotb => .rotb
  | .rotto => .rotto
  | .btne id => .btne id
  | .btnt level => .btnt level
  | .consume => .consume
  | .read => .read
  | .prst => .prst
  | .hsnap now snap => .hsnap now snap
  | .htmr now => .htmr now
  | .hrst => .hrst
  | .hwaitto now => .hwaitto now
  | .hfault now => .hfault now

end Sys2Proof
end

