-- ==== Sys2Proof/Machine/State.lean ====
section
/-! DEFINITION. The state of IRDEC as plain data (10_state.md R20 to R52), its reset, and the reasons a step can stop. -/

namespace Sys2Proof.Machine

/-- `DSTATE`, the decoder's sequencing state (10_state.md R21). `LeadClassified` and `Rc5Mid0` are transient (R22);
`reserved7` is the code 7 that names no state. -/
inductive DState where
  | idle | leadClassified | sircCollect | necCollect | rc5Mid1 | rc5Mid0 | rc5Start0 | reserved7
deriving DecidableEq, Repr

/-- The outcome labels of an event (60_exceptions.md R230) that leave a next state. The other three labels of R230,
`FatalNoTable`, `FatalNoTimer` and `Refused`, are `Fault` and `Refusal`. -/
inductive EventOutcome where
  /-- code 0 -/
  | ok
  /-- code 1: a width outside every window the current `DSTATE` recognises (R231) -/
  | noiseAbort
  /-- code 2: the last NEC bit of a frame that passes neither checksum (R232) -/
  | checksumFail
  /-- code 3: the host's register read failed (R233) -/
  | hostBusFault
deriving DecidableEq, Repr

/-- An action of the host (47_host_classifier.md R203). -/
inductive Action where
  /-- the command string of the matched table entry -/
  | cmd (s : String)
  /-- the shutdown action -/
  | shutdown
  /-- "jump to preset N" -/
  | preset (n : Nat)
  /-- "play track N" -/
  | track (n : Nat)
deriving DecidableEq, Repr

/-- The producer's state (10_state.md R20): the six elements that make the 8-byte StatusRegister, and the eight hidden
ones. -/
structure Producer where
  /-- `CNT`, byte 0 bits 4:0 (R29) -/
  cnt : BitVec 5
  /-- `DIR_A`, byte 0 bit 5 (R30) -/
  dirA : Bool
  /-- `DIR_B`, byte 0 bit 6 (R30) -/
  dirB : Bool
  /-- `ACTIVE`, byte 0 bit 7 (R31) -/
  active : Bool
  /-- `SCAN`, bytes 1 to 3 (R26) -/
  scan : BitVec 24
  /-- `BTN`, bytes 4 to 7 (R27) -/
  btn : BitVec 32
  /-- `DSTATE` (R21) -/
  dstate : DState
  /-- `ACC` (R23) -/
  acc : BitVec 32
  /-- `IDX` (R24) -/
  idx : BitVec 6
  /-- `IR_ARMED` (R32) -/
  irArmed : Bool
  /-- `ROT_ARMED` (R33) -/
  rotArmed : Bool
  /-- `BTN_IRQ_EN` (R34) -/
  btnIrqEn : Bool
  /-- `BTN_RUN` (R35) -/
  btnRun : Bool
  /-- `BUS_IDLE` (R36) -/
  busIdle : Bool
deriving DecidableEq, Repr

/-- The host's ClassifierState (10_state.md R39 to R44). -/
structure Classifier where
  /-- `LASTKC` (R40): the key considered down -/
  lastKc : Option Keycode
  /-- `T_PRESS` (R41) -/
  tPress : Time
  /-- `T_RELEASE` (R42) -/
  tRelease : Time
  /-- `T_LASTREL` (R43) -/
  tLastRel : Time
  /-- `T_FIRE` (R43) -/
  tFire : Time
  /-- `DACC` (R44) -/
  dacc : Nat
  /-- `RUN` (R44) -/
  run : Nat
  /-- `RAMP` (R44), ms -/
  ramp : Nat
  /-- `DEADLINE` (R44), the exact sum `now + TAP_MS` (log entry 12) -/
  deadline : Option Nat
deriving DecidableEq, Repr

/-- The outputs of the last event (00_scope.md R11): every event starts with all of them at their default. MODEL's own
place for them (log entry 16); no event reads them. -/
structure Outputs where
  /-- the `NOTIFY` pulse (46_register_port.md R194) -/
  notify : Bool := false
  /-- the `WAKE` pulse (R195) -/
  wake : Bool := false
  /-- the bytes a `READ` returned, byte 0 first (R190) -/
  ret : Option (List Byte) := none
  /-- the host's actions in order of production (47_host_classifier.md R203) -/
  out : List Action := []
  /-- the outcome label (60_exceptions.md R230) -/
  outcome : EventOutcome := .ok
deriving DecidableEq, Repr

/-- The whole machine: the two agents, the parameters, the outputs of the last event, and two fields of the MODEL's own. -/
structure State where
  /-- the producer agent -/
  prod : Producer
  /-- the host agent -/
  cls : Classifier
  /-- the parameters of the step relation, which no event writes (20_memory.md R71; log entry 5) -/
  params : Params
  /-- the outputs of the last event -/
  outp : Outputs
  /-- MODEL's own: the last `now` of the host trace, `none` after `HRST` (47_host_classifier.md R201; log entry 10) -/
  hostClock : Option Time
  /-- MODEL's own: the event words still to be delivered, first one next (00_scope.md R3; log entry 1) -/
  pending : List EventWord
deriving DecidableEq, Repr

/-- Why the machine stops with a fault. Both are the spec's fatal host start-up conditions, after which "the host side does
not start: no `HRST`, no host event" (60_exceptions.md R230). -/
inductive Fault where
  /-- `FatalNoTable` (R234): raised by every host event when the table is missing, malformed or of more than `TABLE_MAX` entries,
  also where the timer failed too (log entry 15). Safe: the model stops where the spec gives the host no step. -/
  | fatalNoTable
  /-- `FatalNoTimer` (R235): raised by every host event when the timer subsystem did not come up and the table is
  good. Safe, as above. -/
  | fatalNoTimer
deriving DecidableEq, Repr

/-- Why an input is refused: the spec's outcome `Refused` (60_exceptions.md R236), one constructor per input it lists. -/
inductive Refusal where
  /-- An arm of `exec` with no meaning yet; raised by no arm of this model. Safe. -/
  | notModelled (mnemonic : String)
  /-- A reserved event code (30_encoding.md R96); raised by `step`. Safe: the spec gives the word no meaning. -/
  | reservedEvent
  /-- A non-zero bit in a must-be-zero field (30_encoding.md R97); raised by `step`. Safe, as above. -/
  | nonzeroMbz
  /-- A host event whose `now` is below an earlier one (47_host_classifier.md R201); raised by `HSNAP`, `HTMR`, `HWAITTO`,
  `HFAULT`. Safe: the spec refuses the trace. -/
  | clockWentBack
  /-- An `HTMR` with no armed timer or before its deadline (R220); raised by `HTMR`. Safe: the spec refuses the event. -/
  | timerNotDue
  /-- A register read of another shape than offset 0, 8 bytes (20_memory.md R61); raised by no event, because `READ` has
  the one legal shape. Safe. -/
  | partialRead
deriving DecidableEq, Repr

/-- What one step answers. -/
abbrev Result := Host.Outcome State Fault Refusal

/-- The producer's reset values (10_state.md R51), the two channels at their sentinels. -/
def Producer.reset (p : Params) : Producer where
  cnt := 0
  dirA := false
  dirB := false
  active := false
  scan := p.scanSentinel
  btn := p.btnSentinel
  dstate := .idle
  acc := 0
  idx := 0
  irArmed := false
  rotArmed := false
  btnIrqEn := true
  btnRun := false
  busIdle := true

/-- The host's reset values (10_state.md R52). The four timestamps have no value in the spec: DESIGN CHOICE 0, never read
before they are written (log entry 9). -/
def Classifier.reset (p : Params) : Classifier where
  lastKc := none
  tPress := 0
  tRelease := 0
  tLastRel := 0
  tFire := 0
  dacc := 0
  run := 0
  ramp := p.rampInit
  deadline := none

/-- The machine right after reset: both agents at their reset values (R51, R52), the default parameters (log entry 5), no
output, nothing pending. -/
def State.reset : State where
  prod := Producer.reset Params.default
  cls := Classifier.reset Params.default
  params := Params.default
  outp := {}
  hostClock := none
  pending := []

end Sys2Proof.Machine
end

