-- ==== Sys2Proof/Machine/Operands.lean ====
section
/-! DEFINITION. Reading the operands: width classes (30_encoding.md R88, R89), the row of the transition table (R95), the
snapshot of `HSNAP` (47_host_classifier.md R204), the table lookup (R205) and the key class (R202). -/

namespace Sys2Proof.Machine

/-- `in(w, LO, HI)` (00_scope.md R11, R13): unsigned, half-open. -/
def inWindow (w : Width) (win : Window) : Bool :=
  decide (win.lo ≤ w.toNat) && decide (w.toNat < win.hi)

/-- The lead classes (30_encoding.md R88). -/
inductive LeadClass where
  | rc5 | sirc | necr | nec | noise
deriving DecidableEq, Repr

/-- The class of a width in `Idle` (R88), tested in the order of 40_lead_classifier.md R112. -/
def leadClass (p : Params) (w : Width) : LeadClass :=
  if inWindow w p.rc5Lead then .rc5
  else if inWindow w p.sircLead then .sirc
  else if inWindow w p.necrLead then .necr
  else if inWindow w p.necLead then .nec
  else .noise

/-- The classes of a two-level collector, NEC or SIRC (R89): a short pulse, a long pulse, or neither. -/
inductive BitClass where
  | zero | one | out
deriving DecidableEq, Repr

/-- A width outside the window is `out`; inside it, the threshold itself is a 1 (43_nec_collector.md R146,
42_sirc_collector.md R136). -/
def bitClass (win : Window) (thr : Nat) (w : Width) : BitClass :=
  if inWindow w win then (if thr ≤ w.toNat then .one else .zero) else .out

/-- `N0`, `N1`, `OUT` in `NecCollect` (R89). -/
def necClass (p : Params) (w : Width) : BitClass :=
  bitClass p.necBit p.necThr w

/-- `S0`, `S1`, `OUT` in `SircCollect` (R89). -/
def sircClass (p : Params) (w : Width) : BitClass :=
  bitClass p.sircBit p.sircThr w

/-- The RC5 classes (R89). -/
inductive Rc5Class where
  | t1 | t15 | t2 | out
deriving DecidableEq, Repr

/-- `T1`, `T15`, `T2`, `OUT` in `Rc5Mid1` and `Rc5Start0` (R89). -/
def rc5Class (p : Params) (w : Width) : Rc5Class :=
  if inWindow w p.rc5T1 then .t1
  else if inWindow w p.rc5T15 then .t15
  else if inWindow w p.rc5T2 then .t2
  else .out

/-- The row of the transition table that `DSTATE` and the class of `w` select (30_encoding.md R95). -/
def pulseRow (p : Params) (d : DState) (w : Width) : PulseRow :=
  match d with
  | .idle =>
    match leadClass p w with
    | .rc5 => .idleLRc5
    | .sirc => .idleLSirc
    | .necr => .idleLNecr
    | .nec => .idleLNec
    | .noise => .idleLNoise
  | .necCollect =>
    match necClass p w with
    | .zero => .necCollectN0
    | .one => .necCollectN1
    | .out => .necCollectOut
  | .sircCollect =>
    match sircClass p w with
    | .zero => .sircCollectS0
    | .one => .sircCollectS1
    | .out => .sircCollectOut
  | .rc5Mid1 =>
    match rc5Class p w with
    | .t1 => .rc5Mid1T1
    | .t15 => .rc5Mid1T15
    | .t2 => .rc5Mid1T2
    | .out => .rc5Out
  | .rc5Start0 =>
    match rc5Class p w with
    | .t1 => .rc5Start0T1
    | .t15 => .rc5Start0T15
    | .t2 => .rc5Start0T2
    | .out => .rc5Out
  | .leadClassified => .transientAny
  | .rc5Mid0 => .transientAny
  | .reserved7 => .transientAny

/-- Byte `k` of a 64-bit snapshot, bits `8k+7 : 8k` (30_encoding.md R82). -/
def snapByte (snap : BitVec 64) (k : Nat) : Byte :=
  snap.extractLsb' (8 * k) 8

/-- The scan channel of a snapshot: `byte3 ++ byte2 ++ byte1` (R204). -/
def snapScan (snap : BitVec 64) : BitVec 24 :=
  snapByte snap 3 ++ snapByte snap 2 ++ snapByte snap 1

/-- The button channel of a snapshot: `byte7 ++ byte6 ++ byte5 ++ byte4` (R204). -/
def snapBtn (snap : BitVec 64) : BitVec 32 :=
  snapByte snap 7 ++ snapByte snap 6 ++ snapByte snap 5 ++ snapByte snap 4

/-- `EXTRACT(snap)` (47_host_classifier.md R204, 30_encoding.md R94): the scan code of a snapshot. `CNT` is not read. -/
def extract (p : Params) (snap : BitVec 64) : Option ScanCode :=
  let b0 := snapByte snap 0
  if b0.getLsbD 7 = false then none
  else if snapScan snap ≠ p.scanSentinel then some ((snapScan snap).setWidth 32)
  else if snapBtn snap ≠ p.btnSentinel then some (snapBtn snap)
  else if b0.getLsbD 5 then some p.rotACode
  else if b0.getLsbD 6 then some p.rotBCode
  else none

/-- The entries of the table; a missing table has none (no event reads it then, R234). -/
def tableEntries (p : Params) : List Binding :=
  p.table.getD []

/-- `LOOKUP(c)` (47_host_classifier.md R205): the first entry of that scan code; code 0 is never looked
up, as the pseudocode writes it. -/
def lookup (p : Params) (c : Option ScanCode) : Option (Keycode × String) :=
  match c with
  | none => none
  | some code =>
    if code = 0 then none
    else ((tableEntries p).find? (fun e => e.scancode = code)).map (fun e => (e.keycode, e.command))

/-- `KEYCLASS(k)` (R202): the class the configuration gives, `Generic` for a keycode it does not name. -/
def keyClass (p : Params) (k : Keycode) : KeyClass :=
  ((p.keyClasses.find? (fun e => e.1 = k)).map (fun e => e.2)).getD .genericKey

/-- `now - T` on unsigned millisecond counts (00_scope.md R18). Where `T` is later than `now`, which no run reaches, the
difference reads 0 (log entry 11). -/
def elapsed (now t : Time) : Nat :=
  now.toNat - t.toNat

/-- The numeric code of `DSTATE` (10_state.md R21). -/
def dstateCode (d : DState) : BitVec 3 :=
  match d with
  | .idle => 0
  | .leadClassified => 1
  | .sircCollect => 2
  | .necCollect => 3
  | .rc5Mid1 => 4
  | .rc5Mid0 => 5
  | .rc5Start0 => 6
  | .reserved7 => 7

/-- The `DSTATE` of a 3-bit code (R21). -/
def dstateOfCode (c : BitVec 3) : DState :=
  match c.toNat with
  | 0 => .idle
  | 1 => .leadClassified
  | 2 => .sircCollect
  | 3 => .necCollect
  | 4 => .rc5Mid1
  | 5 => .rc5Mid0
  | 6 => .rc5Start0
  | _ => .reserved7

end Sys2Proof.Machine
end

