-- ==== Sys2Proof/Decode.lean ====
section
/-! DEFINITION. The decoder of event words (30_encoding.md R80 to R87, R96, R97), the encoder, and the table decoder of the
`PULSE` rows (R95). -/

namespace Sys2Proof

open Sys2Proof.Machine

/-- Why a word is rejected. -/
inductive DecodeError where
  /-- a reserved event code (R96) -/
  | reservedEvent
  /-- a non-zero bit in a must-be-zero field (R97) -/
  | nonzeroMbz
deriving DecidableEq, Repr

/-- What the decoder answers. -/
inductive Decoded where
  | instr (i : Instr)
  | rejected (e : DecodeError)
deriving DecidableEq, Repr

/-! ## Fields (R81, R82) -/

/-- `op` of a P-format word, bits 39:32. -/
def pOp (b : BitVec 40) : BitVec 8 := b.extractLsb' 32 8

/-- `arg` of a P-format word, bits 31:0. -/
def pArg (b : BitVec 40) : BitVec 32 := b.extractLsb' 0 32

/-- `op` of an H-format word, bits 135:128. -/
def hOp (b : BitVec 136) : BitVec 8 := b.extractLsb' 128 8

/-- `now` of an H-format word, bits 127:64. -/
def hNow (b : BitVec 136) : Time := b.extractLsb' 64 64

/-- `snap` of an H-format word, bits 63:0. -/
def hSnap (b : BitVec 136) : BitVec 64 := b.extractLsb' 0 64

/-! ## The decoder -/

/-- An event whose must-be-zero condition is `ok` (R97). -/
def ifZero (ok : Bool) (i : Instr) : Decoded :=
  if ok then .instr i else .rejected .nonzeroMbz

/-- A P-format word (R83 to R87). -/
def decodeP (b : BitVec 40) : Decoded :=
  match (pOp b).toNat with
  | 0x01 => ifZero ((pArg b).extractLsb' 16 16 == 0) (.pulse ((pArg b).extractLsb' 0 16))
  | 0x02 => ifZero (pArg b == 0) .irto
  | 0x03 => ifZero (pArg b == 0) .rota
  | 0x04 => ifZero (pArg b == 0) .rotb
  | 0x05 => ifZero (pArg b == 0) .rotto
  | 0x06 => .instr (.btne (pArg b))
  | 0x07 => ifZero ((pArg b).extractLsb' 1 31 == 0) (.btnt ((pArg b).getLsbD 0))
  | 0x08 => ifZero (pArg b == 0) .consume
  | 0x09 => ifZero (pArg b == 0) .read
  | 0x0A => ifZero (pArg b == 0) .prst
  | _ => .rejected .reservedEvent

/-- An H-format word (R82, R86, R87). -/
def decodeH (b : BitVec 136) : Decoded :=
  match (hOp b).toNat with
  | 0x81 => .instr (.hsnap (hNow b) (hSnap b))
  | 0x82 => ifZero (hSnap b == 0) (.htmr (hNow b))
  | 0x83 => ifZero (hNow b == 0 && hSnap b == 0) .hrst
  | 0x84 => ifZero (hSnap b == 0) (.hwaitto (hNow b))
  | 0x85 => ifZero (hSnap b == 0) (.hfault (hNow b))
  | _ => .rejected .reservedEvent

/-- The decoder: total on every word of either port. -/
def decode (e : EventWord) : Decoded :=
  match e with
  | .p b => decodeP b
  | .h b => decodeH b

/-- The table decoder: the row of R95 that a `PULSE` word is in a given `DSTATE`; every other event is itself. -/
def decodeIn (p : Params) (d : DState) (e : EventWord) : Decoded :=
  match decode e with
  | .instr (.pulse w) => .instr ((pulseRow p d w).instr w)
  | r => r

/-! ## The encoder -/

/-- A P-format word `op ++ arg` (R81, R101). -/
def wordP (op : BitVec 8) (arg : BitVec 32) : EventWord := .p (op ++ arg)

/-- An H-format word `op ++ now ++ snap` (R82, R101). -/
def wordH (op : BitVec 8) (now : Time) (snap : BitVec 64) : EventWord := .h (op ++ now ++ snap)

/-- The word of `PULSE w` (R83). -/
def wordPulse (w : Width) : EventWord := wordP 0x01 (0#16 ++ w)

/-- The word of an instruction (R83 to R87); a row of R95 has the word of `PULSE`. -/
def encode (i : Instr) : EventWord :=
  match i with
  | .pulse w => wordPulse w
  | .pulseIdleLRc5 w => wordPulse w
  | .pulseIdleLSirc w => wordPulse w
  | .pulseIdleLNecr w => wordPulse w
  | .pulseIdleLNec w => wordPulse w
  | .pulseIdleLNoise w => wordPulse w
  | .pulseNecCollectN0 w => wordPulse w
  | .pulseNecCollectN1 w => wordPulse w
  | .pulseNecCollectOut w => wordPulse w
  | .pulseSircCollectS0 w => wordPulse w
  | .pulseSircCollectS1 w => wordPulse w
  | .pulseSircCollectOut w => wordPulse w
  | .pulseRc5Mid1T1 w => wordPulse w
  | .pulseRc5Mid1T15 w => wordPulse w
  | .pulseRc5Mid1T2 w => wordPulse w
  | .pulseRc5Start0T1 w => wordPulse w
  | .pulseRc5Start0T15 w => wordPulse w
  | .pulseRc5Start0T2 w => wordPulse w
  | .pulseRc5Out w => wordPulse w
  | .pulseTransientAny w => wordPulse w
  | .irto => wordP 0x02 0
  | .rota => wordP 0x03 0
  | .rotb => wordP 0x04 0
  | .rotto => wordP 0x05 0
  | .btne id => wordP 0x06 id
  | .btnt level => wordP 0x07 (if level then 1 else 0)
  | .consume => wordP 0x08 0
  | .read => wordP 0x09 0
  | .prst => wordP 0x0A 0
  | .hsnap now snap => wordH 0x81 now snap
  | .htmr now => wordH 0x82 now 0
  | .hrst => wordH 0x83 0 0
  | .hwaitto now => wordH 0x84 now 0
  | .hfault now => wordH 0x85 now 0

/-- Whether an instruction is an event of the host port (R80, R87). -/
def Instr.onHostPort (i : Instr) : Bool :=
  match encode i with
  | .p _ => false
  | .h _ => true

/-! ## Words of opcode_table.json -/

/-- The event word whose bits are `w` in a row of `nbits` bits: up to 40 bits a P-format word, up to 136 an H-format word
(log entry 3). -/
def tableWord (nbits w : Nat) : Option EventWord :=
  if nbits ≤ 40 then
    if w < 2 ^ 40 then some (.p (BitVec.ofNat 40 w)) else none
  else if nbits ≤ 136 then
    if w < 2 ^ 136 then some (.h (BitVec.ofNat 136 w)) else none
  else none

/-- The instruction the decoder reads from an instruction whose bits are `w`, numbered as opcode_table.json numbers them. -/
def decodeTableWord (nbits w : Nat) : Option Instr :=
  match tableWord nbits w with
  | none => none
  | some e =>
    match decode e with
    | .instr i => some i
    | .rejected _ => none

end Sys2Proof
end

