-- ==== Sys2Proof/Machine/Flags.lean ====
section
/-! DEFINITION. The status byte and the flag computations: the saturating counter (00_scope.md R14), the wake condition
(44_emit_supervisor.md R160) and the two NEC checksum tests (43_nec_collector.md R148). -/

namespace Sys2Proof.Machine

/-- A Bool as one bit. -/
def bit (b : Bool) : BitVec 1 :=
  if b then 1 else 0

/-- Byte 0 of the register: `ACTIVE ++ DIR_B ++ DIR_A ++ CNT[4:0]` (20_memory.md R60). -/
def statusByte (p : Producer) : Byte :=
  bit p.active ++ bit p.dirB ++ bit p.dirA ++ p.cnt

/-- The counter law with the maximum `m`: `if CNT < CNT_MAX then CNT <- CNT + 1` (R14, 44_emit_supervisor.md R160). -/
def satInc (m c : BitVec 5) : BitVec 5 :=
  if c.toNat < m.toNat then c + 1 else c

/-- The wake condition, tested before the increment, with the maximum `m`: `CNT = CNT_MAX and BUS_IDLE = 1` (R160). -/
def wakeCondition (m : BitVec 5) (p : Producer) : Bool :=
  decide (p.cnt = m) && p.busIdle

/-- `a_ok`: the low byte of the address half is the complement of its high byte (R148). -/
def addressOk (acc : BitVec 32) : Bool :=
  decide (acc.extractLsb' 0 8 = ~~~ (acc.extractLsb' 8 8))

/-- `c_ok`: the same of the command half (R148). -/
def commandOk (acc : BitVec 32) : Bool :=
  decide (acc.extractLsb' 16 8 = ~~~ (acc.extractLsb' 24 8))

end Sys2Proof.Machine
end

