-- ==== Sys2Proof/Machine/Ops.lean ====
section
/-! DEFINITION. The shared operations: the start of an event, the outcome labels, the register window, `ABORT`, `BUMP`,
`EMIT`, the accumulators, and what every host event checks first. -/

namespace Sys2Proof.Machine

/-! ## Updates of one part of the state -/

/-- The state with another producer. -/
def State.setProd (s : State) (p : Producer) : State := { s with prod := p }

/-- The state with another classifier. -/
def State.setCls (s : State) (c : Classifier) : State := { s with cls := c }

/-- The state with other outputs. -/
def State.setOutp (s : State) (o : Outputs) : State := { s with outp := o }

/-- The state with another last host time. -/
def State.setClock (s : State) (c : Option Time) : State := { s with hostClock := c }

/-- The state with other event words still to be delivered. -/
def State.setPending (s : State) (ws : List EventWord) : State := { s with pending := ws }

/-- Entry of an event's handler: `notify = wake = 0`, `out = []`, nothing saved (00_scope.md R11, 60_exceptions.md R242). -/
def State.begin (s : State) : State := s.setOutp {}

/-- Raise the `notify` pulse. -/
def State.notify (s : State) : State := s.setOutp { s.outp with notify := true }

/-- Append an action to `out` (47_host_classifier.md R203). -/
def State.act (s : State) (a : Action) : State := s.setOutp { s.outp with out := s.outp.out ++ [a] }

/-! ## Exceptions

`raise <Exception>(info)` "names one of the outcomes of R230 and is followed by the state changes written beside it (no
exception transfers control anywhere)" (00_scope.md R11). So taking an exception is setting the label, and there is no
return from one (60_exceptions.md R243). -/

/-- Raise an outcome: the label of the event, stored in no state a later event reads (R230, R231). -/
def State.raise (s : State) (o : EventOutcome) : State := s.setOutp { s.outp with outcome := o }

/-! ## The register window (20_memory.md) -/

/-- The register image, byte 0 first (R60, 46_register_port.md R190): both channels little-endian. -/
def regImage (p : Producer) : List Byte :=
  [ statusByte p,
    p.scan.extractLsb' 0 8, p.scan.extractLsb' 8 8, p.scan.extractLsb' 16 8,
    p.btn.extractLsb' 0 8, p.btn.extractLsb' 8 8, p.btn.extractLsb' 16 8, p.btn.extractLsb' 24 8 ]

/-- The byte at an offset of the window; no offset above 7 exists (10_state.md R46, R62). -/
def readByte (p : Producer) (off : Nat) : Option Byte :=
  (regImage p)[off]?

/-- The window as address and byte pairs, addresses strictly rising. It is a view: the bytes are stored once, in the fields
of `Producer` (log entry 18). -/
def windowCells (p : Producer) : List Host.Cell :=
  (List.range 8).zip (regImage p)

/-- The canonical form of the window: the offsets 0 to 7, rising. -/
abbrev windowWf (cells : List Host.Cell) : Prop :=
  cells.map (fun c => c.1) = List.range 8

/-- `MemRead(addr, n)`: exists only as `MemRead(0, 8)` (00_scope.md R11, 20_memory.md R61). -/
def memRead (p : Producer) (addr n : Nat) : Option (List Byte) :=
  if addr = 0 ∧ n = 8 then some (regImage p) else none

/-- A register image as the 64-bit `snap` operand: byte `k` at bits `8k+7 : 8k` (30_encoding.md R82). -/
def packBytes : List Byte → BitVec 64
  | [] => 0
  | b :: bs => (packBytes bs <<< 8) ||| b.setWidth 64

/-! ## The decoder's procedures -/

/-- The common part of every `PULSE`: the handler starts and the supervisor is re-armed (40_lead_classifier.md R110). -/
def pulseBegin (s : State) : State :=
  s.begin.setProd { s.prod with irArmed := true }

/-- `ABORT` (40_lead_classifier.md R111): back to `Idle`, accumulated bits discarded, outcome `NoiseAbort`. -/
def abort (s : State) : State :=
  (s.setProd { s.prod with dstate := .idle, acc := 0, idx := 0 }).raise .noiseAbort

/-- `BUMP` (44_emit_supervisor.md R160): the wake test on the value before the increment, then the saturating increment. -/
def bump (s : State) : State :=
  (s.setProd { s.prod with cnt := satInc s.params.cntMax s.prod.cnt }).setOutp
    { s.outp with wake := s.outp.wake || wakeCondition s.params.cntMax s.prod }

/-- The first line of `EMIT`: `none` keeps `SCAN` (R161). -/
def writeScan (c : Option (BitVec 24)) (s : State) : State :=
  match c with
  | some code => s.setProd { s.prod with scan := code }
  | none => s

/-- The lines of `EMIT` after `BUMP` (R161). -/
def finishEmit (s : State) : State :=
  (s.setProd { s.prod with active := true, busIdle := true, dstate := .idle, acc := 0, idx := 0 }).notify

/-- `EMIT(c)` (44_emit_supervisor.md R161). -/
def emit (c : Option (BitVec 24)) (s : State) : State :=
  finishEmit (bump (writeScan c s))

/-- Enter a collector with its starting accumulator and bit count (R113, R114, R116). -/
def startCollector (d : DState) (acc : BitVec 32) (idx : BitVec 6) (s : State) : State :=
  s.setProd { s.prod with dstate := d, acc := acc, idx := idx }

/-- `ACC[i] <- b`: first bit received least significant (00_scope.md R15). -/
def placeBit (acc : BitVec 32) (i : Nat) (b : Bool) : BitVec 32 :=
  (acc &&& ~~~ (1#32 <<< i)) ||| (if b then 1#32 <<< i else 0)

/-- `(ACC << 1 | b)[31:0]`: first bit received most significant (R15). -/
def shiftBit (acc : BitVec 32) (b : Bool) : BitVec 32 :=
  (acc <<< 1) ||| (if b then 1 else 0)

/-- Move to another `DSTATE`. -/
def goto (d : DState) (s : State) : State :=
  s.setProd { s.prod with dstate := d }

/-! ## Ramp arithmetic and host events -/

/-- One decay step: `max(RAMP_FLOOR, floor(RAMP * RAMP_NUM / RAMP_DEN))` (00_scope.md R16). -/
def decay (p : Params) (ramp : Nat) : Nat :=
  max p.rampFloor (ramp * p.rampNum / p.rampDen)

/-- The fatal start-up condition that holds, if any (60_exceptions.md R234, R235; 70_reset_and_hazards.md R263 (b)). DESIGN
CHOICE: where the table and the timer both fail, it is `FatalNoTable`. The spec gives both conditions and no precedence; in
either case the host has no step, so the order shows only in the name of the fault (log entry 15). -/
def hostFatal (p : Params) : Option Fault :=
  match p.table with
  | none => some .fatalNoTable
  | some t =>
    if p.tableMax < t.length then some .fatalNoTable
    else if p.timerOk then none
    else some .fatalNoTimer

/-- Whether `now` is below the last `now` of the host trace (47_host_classifier.md R201). -/
def clockBack (last : Option Time) (now : Time) : Bool :=
  match last with
  | none => false
  | some t => decide (now.toNat < t.toNat)

/-- A host event that needs the host side to exist and nothing else (`HRST`, R261, R263). -/
def onHost (s : State) (k : State → Result) : Result :=
  match hostFatal s.params with
  | some f => .fault f
  | none => k s.begin

/-- A host event that carries `now`: the host side exists and the clock has not run backwards (R201); the event then sees
its own `now` as the last one. -/
def atTime (now : Time) (s : State) (k : State → Result) : Result :=
  onHost s fun t =>
    if clockBack s.hostClock now then .refused .clockWentBack
    else k (t.setClock (some now))

end Sys2Proof.Machine
end

