-- ==== Sys2Proof/Machine/HostSide.lean ====
section
/-! DEFINITION. The host events: the classifier's `HSNAP`, the digit timer's `HTMR`, `HWAITTO`, `HFAULT`
(47_host_classifier.md), and `HRST` (70_reset_and_hazards.md R261). -/

namespace Sys2Proof.Machine

/-! ## Policies per class (47_host_classifier.md section 4) -/

/-- R210: a `Repeat` key goes down. -/
def pressRepeat (now : Time) (cmd : String) (s : State) : State :=
  (s.act (.cmd cmd)).setCls { s.cls with ramp := s.params.rampInit, tFire := now }

/-- R211: a `Repeat` key stays down; it fires once the delay since the last fire has elapsed, and the delay shrinks. -/
def sustainRepeat (now : Time) (cmd : String) (s : State) : State :=
  if s.cls.ramp ≤ elapsed now s.cls.tFire then
    (s.act (.cmd cmd)).setCls { s.cls with tFire := now, ramp := decay s.params s.cls.ramp }
  else s

/-- R212: a `Power` key is released after `hold`. -/
def releasePower (hold : Nat) (s : State) : State :=
  if s.params.holdMs ≤ hold then s.act .shutdown else s

/-- R213: a long hold of a digit key; the timer is left as it is. -/
def digitLong (d : Fin 10) (s : State) : State :=
  (s.act (.preset d.val)).setCls { s.cls with dacc := 0, run := 0 }

/-- R214, R215: whether a short release appends to the run. -/
def digitAppends (now : Time) (s : State) : Bool :=
  decide (1 ≤ s.cls.run) && decide (s.cls.run < s.params.runMax) && decide (elapsed now s.cls.tLastRel < s.params.tapMs)

/-- R214: a short release of a digit key. -/
def digitShort (now : Time) (d : Fin 10) (s : State) : State :=
  s.setCls { s.cls with
    dacc := if digitAppends now s then s.cls.dacc * 10 + d.val else d.val
    run := if digitAppends now s then s.cls.run + 1 else 1
    tLastRel := now
    deadline := some (now.toNat + s.params.tapMs) }

/-- A `Digit d` key is released after `hold`: the long hold is tested first (R213, R214, 70_reset_and_hazards.md R277). -/
def releaseDigit (now : Time) (d : Fin 10) (hold : Nat) (s : State) : State :=
  if s.params.holdMs ≤ hold then digitLong d s else digitShort now d s

/-- R216: a `Generic` key goes down. -/
def pressGeneric (cmd : String) (s : State) : State := s.act (.cmd cmd)

/-! ## The three transitions -/

/-- `PRESS(k, cmd)` (R207). -/
def press (now : Time) (k : Keycode) (cmd : String) (s : State) : State :=
  let t := s.setCls { s.cls with lastKc := some k, tPress := now }
  match keyClass s.params k with
  | .repeatKey => pressRepeat now cmd t
  | .powerKey => t
  | .digitKey _ => t
  | .genericKey => pressGeneric cmd t

/-- `SUSTAIN(k, cmd)` (R208): no common state change. -/
def sustain (now : Time) (k : Keycode) (cmd : String) (s : State) : State :=
  match keyClass s.params k with
  | .repeatKey => sustainRepeat now cmd s
  | .powerKey => s
  | .digitKey _ => s
  | .genericKey => s

/-- `RELEASE(j)` (R209): the hold is measured across the press-to-release span. -/
def release (now : Time) (j : Keycode) (s : State) : State :=
  let t := s.setCls { s.cls with lastKc := none, tRelease := now }
  match keyClass s.params j with
  | .repeatKey => t
  | .powerKey => releasePower (elapsed now s.cls.tPress) t
  | .digitKey d => releaseDigit now d (elapsed now s.cls.tPress) t
  | .genericKey => t

/-- The five cases of `HSNAP` (R206), by the key that was down and the key the snapshot shows. -/
def classify (now : Time) (cur : Option (Keycode × String)) (s : State) : State :=
  match s.cls.lastKc, cur with
  | none, none => s
  | none, some (k, cmd) => press now k cmd s
  | some j, some (k, cmd) => if j = k then sustain now k cmd s else press now k cmd (release now j s)
  | some j, none => release now j s

/-! ## The events -/

/-- `HSNAP now snap` (R206). -/
def execHsnap (now : Time) (snap : BitVec 64) (s : State) : Result :=
  atTime now s fun t => .next (classify now (lookup s.params (extract s.params snap)) t)

/-- What an expiry of the digit timer does (R220). -/
def timerExpiry (s : State) : State :=
  if 1 ≤ s.cls.run then
    (s.act (.track s.cls.dacc)).setCls { s.cls with deadline := none, dacc := 0, run := 0 }
  else s.setCls { s.cls with deadline := none }

/-- Whether the timer is armed and due (R220). -/
def timerDue (now : Time) (c : Classifier) : Bool :=
  match c.deadline with
  | none => false
  | some t => decide (t ≤ now.toNat)

/-- `HTMR now` (R220). Unarmed or early, it is refused (log entry 13). -/
def execHtmr (now : Time) (s : State) : Result :=
  atTime now s fun t => if timerDue now s.cls then .next (timerExpiry t) else .refused .timerNotDue

/-- `HRST` (70_reset_and_hazards.md R261): the host at its reset values; the next `now` is unconstrained (R201). -/
def execHrst (s : State) : Result :=
  onHost s fun t => .next ((t.setCls (Classifier.reset s.params)).setClock none)

/-- `HWAITTO now` (R222): the bounded wait ended with no notification; no state change, no action. -/
def execHwaitto (now : Time) (s : State) : Result :=
  atTime now s fun t => .next t

/-- `HFAULT now` (R223): a register read failed; no state change, no action, outcome `HostBusFault` (60_exceptions.md R233). -/
def execHfault (now : Time) (s : State) : Result :=
  atTime now s fun t => .next (t.raise .hostBusFault)

end Sys2Proof.Machine
end

