-- ==== Sys2Proof/Machine/Producer.lean ====
section
/-! DEFINITION. The producer events other than `PULSE`: the supervisor's `IRTO` (44_emit_supervisor.md), the rotary/button
latch (45_rotary_button_latch.md), the register port (46_register_port.md) and `PRST` (70_reset_and_hazards.md). -/

namespace Sys2Proof.Machine

/-- `IRTO` (44_emit_supervisor.md R165). Not armed: no effect. -/
def execIrto (s : State) : Result :=
  .next <|
    if s.prod.irArmed then
      (s.begin.setProd { s.prod with
        active := false, cnt := 0, scan := s.params.scanSentinel,
        dstate := .idle, acc := 0, idx := 0, irArmed := false, busIdle := true }).notify
    else s.begin

/-- `ROTA` (45_rotary_button_latch.md R175). -/
def execRota (s : State) : Result :=
  .next (s.begin.setProd { s.prod with
    dirA := true, dirB := false, active := true, rotArmed := true, busIdle := true }).notify

/-- `ROTB` (R176). -/
def execRotb (s : State) : Result :=
  .next (s.begin.setProd { s.prod with
    dirB := true, dirA := false, active := true, rotArmed := true, busIdle := true }).notify

/-- `ROTTO` (R177). Not armed: no effect. -/
def execRotto (s : State) : Result :=
  .next <|
    if s.prod.rotArmed then
      (s.begin.setProd { s.prod with
        dirA := false, dirB := false, active := false, rotArmed := false, busIdle := true }).notify
    else s.begin

/-- `BTNE id`: accepted with the edge interrupt enabled (R178), masked otherwise (R179). DESIGN CHOICE: every 32-bit `id` is
accepted. Which identities exist is an OPEN parameter of the platform (30_encoding.md R84), and the model has none for it (log
entry 25). -/
def execBtne (id : BitVec 32) (s : State) : Result :=
  .next <|
    if s.prod.btnIrqEn then
      (s.begin.setProd { s.prod with
        btn := id ||| 1, active := true, btnIrqEn := false, btnRun := true, busIdle := true }).notify
    else s.begin

/-- A held tick (R180): `BUMP`, then `ACTIVE` and `BUS_IDLE`. -/
def heldTick (s : State) : State :=
  let t := bump s
  (t.setProd { t.prod with active := true, busIdle := true }).notify

/-- The tick that reads the button released (R181). -/
def releaseTick (s : State) : State :=
  (s.setProd { s.prod with
    btnRun := false, btnIrqEn := true, btn := s.params.btnSentinel, active := false, cnt := 0, busIdle := true }).notify

/-- `BTNT level`: a held tick (R180), the release tick (R181), or nothing when the timer does not run (R182). -/
def execBtnt (level : Bool) (s : State) : Result :=
  .next <|
    if s.prod.btnRun then
      if level then heldTick s.begin else releaseTick s.begin
    else s.begin

/-- `CONSUME` (46_register_port.md R192): clears `ACTIVE` and nothing else. -/
def execConsume (s : State) : Result :=
  .next (s.begin.setProd { s.prod with active := false })

/-- `READ` (46_register_port.md R190): `MemRead(0, 8)`; only `BUS_IDLE` changes. -/
def execRead (s : State) : Result :=
  match memRead s.prod 0 8 with
  | some bytes =>
    let t := s.begin.setProd { s.prod with busIdle := false }
    .next (t.setOutp { t.outp with ret := some bytes })
  | none => .refused .partialRead

/-- `PRST` (70_reset_and_hazards.md R260): the producer at its reset values; no output; the host is not touched. -/
def execPrst (s : State) : Result :=
  .next (s.begin.setProd (Producer.reset s.params))

end Sys2Proof.Machine
end

