-- ==== Sys2Proof/Machine/Collectors.lean ====
section
/-! DEFINITION. What the rows of the `PULSE` transition table do, after the common part (30_encoding.md R95): the lead rows,
the NEC, SIRC and RC5 collectors, and the NEC checksum validator. -/

namespace Sys2Proof.Machine

/-! ## Lead rows (40_lead_classifier.md) -/

/-- R113: RC5 start. Both start bits are already accumulated. -/
def leadRc5 (s : State) : State := startCollector .rc5Mid1 0b11 2 s

/-- R114: SIRC start. -/
def leadSirc (s : State) : State := startCollector .sircCollect 0 0 s

/-- R115: NEC repeat; the code in `SCAN` stays. -/
def leadNecRepeat (s : State) : State := emit none s

/-- R116: NEC data start. -/
def leadNec (s : State) : State := startCollector .necCollect 0 0 s

/-- R117: noise. -/
def leadNoise (s : State) : State := abort s

/-! ## NEC (43_nec_collector.md) -/

/-- `NECVALIDATE(acc)` (R148): standard NEC, extended NEC, or `NEC_INVALID`. -/
def necValidate (p : Params) (acc : BitVec 32) : BitVec 24 :=
  if addressOk acc && commandOk acc then
    0x00#8 ++ acc.extractLsb' 0 8 ++ acc.extractLsb' 16 8
  else if commandOk acc then
    acc.extractLsb' 8 8 ++ acc.extractLsb' 0 8 ++ acc.extractLsb' 16 8
  else p.necInvalid

/-- `NECVALIDATE` returns by its last branch: the outcome `ChecksumFail` (60_exceptions.md R232). -/
def necInvalidFrame (acc : BitVec 32) : Bool := !commandOk acc

/-- One NEC bit in place, and the count that follows it (R146). -/
def necPlace (b : Bool) (s : State) : State :=
  s.setProd { s.prod with acc := placeBit s.prod.acc s.prod.idx.toNat b, idx := s.prod.idx + 1 }

/-- The last bit (`NEC_BITS`): validate and emit; an invalid frame is emitted like a valid one (R146, R150, R232). -/
def necComplete (s : State) : State :=
  emit (some (necValidate s.params s.prod.acc))
    (if necInvalidFrame s.prod.acc then s.raise .checksumFail else s)

/-- R146: an in-window NEC pulse. -/
def necBit (b : Bool) (s : State) : State :=
  if (necPlace b s).prod.idx.toNat = s.params.necBits then necComplete (necPlace b s) else necPlace b s

/-! ## SIRC (42_sirc_collector.md) -/

/-- One SIRC bit in place, and the count that follows it (R136). -/
def sircPlace (b : Bool) (s : State) : State :=
  s.setProd { s.prod with acc := placeBit s.prod.acc s.prod.idx.toNat b, idx := s.prod.idx + 1 }

/-- R136: an in-window SIRC pulse; the payload is `ACC[19:0]` (30_encoding.md R92). -/
def sircBit (b : Bool) (s : State) : State :=
  if (sircPlace b s).prod.idx.toNat = s.params.sircBits then
    emit (some (((sircPlace b s).prod.acc.extractLsb' 0 20).setWidth 24)) (sircPlace b s)
  else sircPlace b s

/-! ## RC5 (41_rc5_collector.md) -/

/-- One RC5 bit shifted in, and the count that follows it (R122). -/
def rc5Shift (b : Bool) (s : State) : State :=
  s.setProd { s.prod with acc := shiftBit s.prod.acc b, idx := s.prod.idx + 1 }

/-- `RC5ACC(b)` followed by the rest of its row: at `RC5_BITS` bits the frame is emitted and the event ends there, with the rest of
the row dropped (R122); the payload is `ACC[12:0]` (30_encoding.md R91). -/
def rc5Acc (b : Bool) (rest : State → State) (s : State) : State :=
  if (rc5Shift b s).prod.idx.toNat = s.params.rc5Bits then
    emit (some (((rc5Shift b s).prod.acc.extractLsb' 0 13).setWidth 24)) (rc5Shift b s)
  else rest (rc5Shift b s)

/-- R123: `T1` in `Rc5Mid1`, a 1. -/
def rc5Mid1T1 (s : State) : State := rc5Acc true (goto .rc5Mid1) s

/-- R124: `T15` in `Rc5Mid1`, a 0 with the edge at the start of a further 0. -/
def rc5Mid1T15 (s : State) : State := rc5Acc false (goto .rc5Start0) s

/-- R125: `T2` in `Rc5Mid1`, a 0 then a 1. -/
def rc5Mid1T2 (s : State) : State := rc5Acc false (rc5Acc true (goto .rc5Mid1)) s

/-- R126: `T1` in `Rc5Start0`, the 0 stood at. -/
def rc5Start0T1 (s : State) : State := rc5Acc false (goto .rc5Start0) s

/-- R127: `T15` in `Rc5Start0`, the 0 stood at, then a 1. -/
def rc5Start0T15 (s : State) : State := rc5Acc false (rc5Acc true (goto .rc5Mid1)) s

/-! ## The table -/

/-- The action of a row of R95, after the common part. -/
def rowAction (r : PulseRow) (s : State) : State :=
  match r with
  | .idleLRc5 => leadRc5 s
  | .idleLSirc => leadSirc s
  | .idleLNecr => leadNecRepeat s
  | .idleLNec => leadNec s
  | .idleLNoise => leadNoise s
  | .necCollectN0 => necBit false s
  | .necCollectN1 => necBit true s
  | .necCollectOut => abort s
  | .sircCollectS0 => sircBit false s
  | .sircCollectS1 => sircBit true s
  | .sircCollectOut => abort s
  | .rc5Mid1T1 => rc5Mid1T1 s
  | .rc5Mid1T15 => rc5Mid1T15 s
  | .rc5Mid1T2 => rc5Mid1T2 s
  | .rc5Start0T1 => rc5Start0T1 s
  | .rc5Start0T15 => rc5Start0T15 s
  | .rc5Start0T2 => abort s
  | .rc5Out => abort s
  | .transientAny => abort s

end Sys2Proof.Machine
end

