-- ==== Sys2Proof/Machine/Pulse.lean ====
section
/-! DEFINITION. `PULSE w`, and one meaning per row of its transition table (30_encoding.md R95).

The twenty instructions are spellings of one word, so each of them does what that word does: where the named row is the one
that `DSTATE` and the class of `w` select, its action; elsewhere, what `PULSE w` does there (log entry 4). -/

namespace Sys2Proof.Machine

/-- The row that `PULSE w` runs in this state (R95). -/
def selectedRow (w : Width) (s : State) : PulseRow := pulseRow s.params s.prod.dstate w

/-- `PULSE w` (40_lead_classifier.md R110): the common part, then the selected row. -/
def execPulse (w : Width) (s : State) : Result :=
  .next (rowAction (selectedRow w s) (pulseBegin s))

/-- `PULSE w` spelled as the row `r`, whose action is `act`. -/
def asRow (r : PulseRow) (act : State → State) (w : Width) (s : State) : Result :=
  if selectedRow w s = r then .next (act (pulseBegin s)) else execPulse w s

/-- R113: `Idle`, class `L_RC5`. -/
def execPulseIdleLRc5 (w : Width) (s : State) : Result := asRow .idleLRc5 leadRc5 w s

/-- R114: `Idle`, class `L_SIRC`. -/
def execPulseIdleLSirc (w : Width) (s : State) : Result := asRow .idleLSirc leadSirc w s

/-- R115: `Idle`, class `L_NECR`. -/
def execPulseIdleLNecr (w : Width) (s : State) : Result := asRow .idleLNecr leadNecRepeat w s

/-- R116: `Idle`, class `L_NEC`. -/
def execPulseIdleLNec (w : Width) (s : State) : Result := asRow .idleLNec leadNec w s

/-- R117: `Idle`, class `L_NOISE`. -/
def execPulseIdleLNoise (w : Width) (s : State) : Result := asRow .idleLNoise leadNoise w s

/-- R146: `NecCollect`, class `N0`. -/
def execPulseNecCollectN0 (w : Width) (s : State) : Result := asRow .necCollectN0 (necBit false) w s

/-- R146: `NecCollect`, class `N1`. -/
def execPulseNecCollectN1 (w : Width) (s : State) : Result := asRow .necCollectN1 (necBit true) w s

/-- R147: `NecCollect`, class `OUT`. -/
def execPulseNecCollectOut (w : Width) (s : State) : Result := asRow .necCollectOut abort w s

/-- R136: `SircCollect`, class `S0`. -/
def execPulseSircCollectS0 (w : Width) (s : State) : Result := asRow .sircCollectS0 (sircBit false) w s

/-- R136: `SircCollect`, class `S1`. -/
def execPulseSircCollectS1 (w : Width) (s : State) : Result := asRow .sircCollectS1 (sircBit true) w s

/-- R137: `SircCollect`, class `OUT`. -/
def execPulseSircCollectOut (w : Width) (s : State) : Result := asRow .sircCollectOut abort w s

/-- R123: `Rc5Mid1`, class `T1`. -/
def execPulseRc5Mid1T1 (w : Width) (s : State) : Result := asRow .rc5Mid1T1 rc5Mid1T1 w s

/-- R124: `Rc5Mid1`, class `T15`. -/
def execPulseRc5Mid1T15 (w : Width) (s : State) : Result := asRow .rc5Mid1T15 rc5Mid1T15 w s

/-- R125: `Rc5Mid1`, class `T2`. -/
def execPulseRc5Mid1T2 (w : Width) (s : State) : Result := asRow .rc5Mid1T2 rc5Mid1T2 w s

/-- R126: `Rc5Start0`, class `T1`. -/
def execPulseRc5Start0T1 (w : Width) (s : State) : Result := asRow .rc5Start0T1 rc5Start0T1 w s

/-- R127: `Rc5Start0`, class `T15`. -/
def execPulseRc5Start0T15 (w : Width) (s : State) : Result := asRow .rc5Start0T15 rc5Start0T15 w s

/-- R128: `Rc5Start0`, class `T2`. -/
def execPulseRc5Start0T2 (w : Width) (s : State) : Result := asRow .rc5Start0T2 abort w s

/-- R128: `Rc5Mid1` or `Rc5Start0`, class `OUT`. -/
def execPulseRc5Out (w : Width) (s : State) : Result := asRow .rc5Out abort w s

/-- R118: `LeadClassified`, `Rc5Mid0` or 7, any width. -/
def execPulseTransientAny (w : Width) (s : State) : Result := asRow .transientAny abort w s

end Sys2Proof.Machine
end

