-- ==== Sys2Proof/Machine/Dispatch.lean ====
section
/-! DEFINITION. Dispatch: one arm per instruction. -/

namespace Sys2Proof.Machine

open Sys2Proof

def exec (i : Instr) (s : State) : Host.Outcome State Fault Refusal :=
  match i with
  | .pulse w => Sys2Proof.Machine.execPulse w s
  | .pulseIdleLRc5 w => Sys2Proof.Machine.execPulseIdleLRc5 w s
  | .pulseIdleLSirc w => Sys2Proof.Machine.execPulseIdleLSirc w s
  | .pulseIdleLNecr w => Sys2Proof.Machine.execPulseIdleLNecr w s
  | .pulseIdleLNec w => Sys2Proof.Machine.execPulseIdleLNec w s
  | .pulseIdleLNoise w => Sys2Proof.Machine.execPulseIdleLNoise w s
  | .pulseNecCollectN0 w => Sys2Proof.Machine.execPulseNecCollectN0 w s
  | .pulseNecCollectN1 w => Sys2Proof.Machine.execPulseNecCollectN1 w s
  | .pulseNecCollectOut w => Sys2Proof.Machine.execPulseNecCollectOut w s
  | .pulseSircCollectS0 w => Sys2Proof.Machine.execPulseSircCollectS0 w s
  | .pulseSircCollectS1 w => Sys2Proof.Machine.execPulseSircCollectS1 w s
  | .pulseSircCollectOut w => Sys2Proof.Machine.execPulseSircCollectOut w s
  | .pulseRc5Mid1T1 w => Sys2Proof.Machine.execPulseRc5Mid1T1 w s
  | .pulseRc5Mid1T15 w => Sys2Proof.Machine.execPulseRc5Mid1T15 w s
  | .pulseRc5Mid1T2 w => Sys2Proof.Machine.execPulseRc5Mid1T2 w s
  | .pulseRc5Start0T1 w => Sys2Proof.Machine.execPulseRc5Start0T1 w s
  | .pulseRc5Start0T15 w => Sys2Proof.Machine.execPulseRc5Start0T15 w s
  | .pulseRc5Start0T2 w => Sys2Proof.Machine.execPulseRc5Start0T2 w s
  | .pulseRc5Out w => Sys2Proof.Machine.execPulseRc5Out w s
  | .pulseTransientAny w => Sys2Proof.Machine.execPulseTransientAny w s
  | .irto => Sys2Proof.Machine.execIrto s
  | .rota => Sys2Proof.Machine.execRota s
  | .rotb => Sys2Proof.Machine.execRotb s
  | .rotto => Sys2Proof.Machine.execRotto s
  | .btne id => Sys2Proof.Machine.execBtne id s
  | .btnt level => Sys2Proof.Machine.execBtnt level s
  | .consume => Sys2Proof.Machine.execConsume s
  | .read => Sys2Proof.Machine.execRead s
  | .prst => Sys2Proof.Machine.execPrst s
  | .hsnap now snap => Sys2Proof.Machine.execHsnap now snap s
  | .htmr now => Sys2Proof.Machine.execHtmr now s
  | .hrst => Sys2Proof.Machine.execHrst s
  | .hwaitto now => Sys2Proof.Machine.execHwaitto now s
  | .hfault now => Sys2Proof.Machine.execHfault now s

end Sys2Proof.Machine
end

