-- ==== Sys2Proof/Machine/Step.lean ====
section
/-! DEFINITION. One step: take the next event word the environment delivers, decode it, run it. -/

namespace Sys2Proof.Machine

/-- The refusal of a word the decoder rejects (30_encoding.md R96, R97). -/
def refusalOf (e : DecodeError) : Refusal :=
  match e with
  | .reservedEvent => .reservedEvent
  | .nonzeroMbz => .nonzeroMbz

/-- Deliver one event word to the machine. -/
def deliver (e : EventWord) (s : State) : Result :=
  match decode e with
  | .instr i => exec i s
  | .rejected r => .refused (refusalOf r)

/-- One step: the first pending word is taken and run as one atomic event (00_scope.md R3, R12). With nothing pending the
machine waits and nothing changes (log entry 2). -/
def step (s : State) : Host.Outcome State Fault Refusal :=
  match s.pending with
  | [] => .next s
  | e :: rest => deliver e (s.setPending rest)

/-- A sequence of events, run one after the other; it ends at the first fault or refusal (00_scope.md R12). -/
def runEvents : List Instr → State → Result
  | [], s => .next s
  | i :: rest, s =>
    match exec i s with
    | .next t => runEvents rest t
    | .fault f => .fault f
    | .refused r => .refused r

/-- `s` with the instruction whose bits are `w` as the next event word delivered (log entry 1). -/
def State.withFetchWord (s : State) (nbits w : Nat) : State :=
  match tableWord nbits w with
  | some e => s.setPending (e :: s.pending)
  | none => s

end Sys2Proof.Machine
end

