-- ==== Sys2Proof/WellFormed.lean ====
section
/-! DEFINITION. Which instructions and which parameters are well-formed. -/

namespace Sys2Proof

open Sys2Proof.Machine

/-- Whether a width has the class that a row of the transition table names (30_encoding.md R95, column "class of w"). -/
def Instr.wf (p : Params) (i : Instr) : Bool :=
  match i with
  | .pulse _ => true
  | .pulseIdleLRc5 w => leadClass p w == .rc5
  | .pulseIdleLSirc w => leadClass p w == .sirc
  | .pulseIdleLNecr w => leadClass p w == .necr
  | .pulseIdleLNec w => leadClass p w == .nec
  | .pulseIdleLNoise w => leadClass p w == .noise
  | .pulseNecCollectN0 w => necClass p w == .zero
  | .pulseNecCollectN1 w => necClass p w == .one
  | .pulseNecCollectOut w => necClass p w == .out
  | .pulseSircCollectS0 w => sircClass p w == .zero
  | .pulseSircCollectS1 w => sircClass p w == .one
  | .pulseSircCollectOut w => sircClass p w == .out
  | .pulseRc5Mid1T1 w => rc5Class p w == .t1
  | .pulseRc5Mid1T15 w => rc5Class p w == .t15
  | .pulseRc5Mid1T2 w => rc5Class p w == .t2
  | .pulseRc5Start0T1 w => rc5Class p w == .t1
  | .pulseRc5Start0T15 w => rc5Class p w == .t15
  | .pulseRc5Start0T2 w => rc5Class p w == .t2
  | .pulseRc5Out w => rc5Class p w == .out
  | .pulseTransientAny _ => true
  | .irto => true
  | .rota => true
  | .rotb => true
  | .rotto => true
  | .btne _ => true
  | .btnt _ => true
  | .consume => true
  | .read => true
  | .prst => true
  | .hsnap _ _ => true
  | .htmr _ => true
  | .hrst => true
  | .hwaitto _ => true
  | .hfault _ => true

/-- Two windows that share no width. -/
def Window.disjoint (a b : Window) : Bool :=
  decide (a.hi ≤ b.lo) || decide (b.hi ≤ a.lo)

/-- The lead windows are disjoint (30_encoding.md R88). -/
def Params.leadsDisjoint (p : Params) : Bool :=
  p.rc5Lead.disjoint p.sircLead && p.rc5Lead.disjoint p.necrLead && p.rc5Lead.disjoint p.necLead &&
  p.sircLead.disjoint p.necrLead && p.sircLead.disjoint p.necLead && p.necrLead.disjoint p.necLead

/-- The RC5 windows are disjoint (93_implementation_defined.md row 1: "windows of one state must stay disjoint"). -/
def Params.rc5Disjoint (p : Params) : Bool :=
  p.rc5T1.disjoint p.rc5T15 && p.rc5T1.disjoint p.rc5T2 && p.rc5T15.disjoint p.rc5T2

/-- Each threshold stands inside its window (30_encoding.md R89). -/
def Params.thresholdsInside (p : Params) : Bool :=
  decide (p.necBit.lo ≤ p.necThr) && decide (p.necThr ≤ p.necBit.hi) &&
  decide (p.sircBit.lo ≤ p.sircThr) && decide (p.sircThr ≤ p.sircBit.hi)

/-- `SIRC_BITS` has a legal value (00_scope.md R6). -/
def Params.sircBitsLegal (p : Params) : Bool :=
  p.sircBits == 12 || p.sircBits == 15 || p.sircBits == 20

/-- An NEC and an RC5 frame have bits, at least one more than the two of the RC5 preload, and fit the 32-bit accumulator
(00_scope.md R15: "at most 32"; log entry 24). -/
def Params.frameBitsLegal (p : Params) : Bool :=
  decide (1 ≤ p.necBits) && decide (p.necBits ≤ 32) && decide (3 ≤ p.rc5Bits) && decide (p.rc5Bits ≤ 32)

/-- A run has at least one digit (10_state.md R44; log entry 24). -/
def Params.runMaxLegal (p : Params) : Bool :=
  decide (1 ≤ p.runMax)

/-- The ramp decays towards a floor that is not above its start (00_scope.md R16, 10_state.md R44). -/
def Params.rampLegal (p : Params) : Bool :=
  decide (p.rampFloor ≤ p.rampInit) && decide (p.rampNum ≤ p.rampDen) && decide (0 < p.rampDen)

/-- The host start-up requirements: a table of at most `TABLE_MAX` entries and a timer (70_reset_and_hazards.md R263 (b)). -/
def Params.hostStarts (p : Params) : Bool :=
  (match p.table with
   | none => false
   | some t => decide (t.length ≤ p.tableMax)) && p.timerOk

/-- Parameters as the spec allows them. -/
def Params.wf (p : Params) : Bool :=
  p.leadsDisjoint && p.rc5Disjoint && p.thresholdsInside && p.sircBitsLegal && p.frameBitsLegal &&
  p.runMaxLegal && p.rampLegal && p.hostStarts

end Sys2Proof
end

