-- ==== Sys2Proof/Safety.lean ====
section
/-! DEFINITION. What a good state and a safe step are: the invariants the spec states (10_state.md R25, R44, R45;
45_rotary_button_latch.md R183; 00_scope.md R14, R18), and the relation by which unwritten timestamps cannot be told apart. -/

namespace Sys2Proof.Machine

/-- The bits of `acc` from `i` upward are zero: `ACC[31:i] = 0`. -/
def highClear (acc : BitVec 32) (i : Nat) : Prop := acc.toNat < 2 ^ i

/-- The decoder invariant (10_state.md R25 (a) to (f)): a collection holds fewer bits than its frame has. -/
def DecoderInv (q : Params) (p : Producer) : Prop :=
  match p.dstate with
  | .idle => p.acc = 0 ∧ p.idx = 0
  | .necCollect => p.idx.toNat + 1 ≤ q.necBits ∧ highClear p.acc p.idx.toNat
  | .sircCollect => p.idx.toNat + 1 ≤ q.sircBits ∧ highClear p.acc p.idx.toNat
  | .rc5Mid1 => 2 ≤ p.idx.toNat ∧ p.idx.toNat + 1 ≤ q.rc5Bits ∧ highClear p.acc p.idx.toNat ∧
      p.acc.getLsbD (p.idx.toNat - 1) = true ∧ p.acc.getLsbD (p.idx.toNat - 2) = true ∧ p.acc.getLsbD 0 = true
  | .rc5Start0 => 2 ≤ p.idx.toNat ∧ p.idx.toNat + 1 ≤ q.rc5Bits ∧ highClear p.acc p.idx.toNat ∧
      p.acc.getLsbD (p.idx.toNat - 1) = true ∧ p.acc.getLsbD (p.idx.toNat - 2) = true ∧ p.acc.getLsbD 0 = false
  | .leadClassified => False
  | .rc5Mid0 => False
  | .reserved7 => False

/-- The latch invariant (45_rotary_button_latch.md R183 (a) to (d)). -/
def LatchInv (q : Params) (p : Producer) : Prop :=
  (p.dirA && p.dirB) = false ∧
  p.btnRun = !p.btnIrqEn ∧
  (p.btnRun = true → p.btn.getLsbD 0 = true) ∧
  (p.btnRun = false → p.btn = q.btnSentinel) ∧
  (p.rotArmed = false → p.dirA = false ∧ p.dirB = false)

/-- The counter stands at or below `CNT_MAX` (00_scope.md R14). -/
def CounterInv (q : Params) (p : Producer) : Prop := p.cnt.toNat ≤ q.cntMax.toNat

/-- The classifier invariant (10_state.md R44, R45). -/
def ClassifierInv (p : Params) (c : Classifier) : Prop :=
  c.run ≤ p.runMax ∧
  c.dacc < 10 ^ c.run ∧
  (1 ≤ c.run → c.deadline = some (c.tLastRel.toNat + p.tapMs)) ∧
  p.rampFloor ≤ c.ramp ∧ c.ramp ≤ p.rampInit

/-- A timestamp is not later than the last `now` of the host trace. -/
def notAfter (t : Time) (clock : Option Time) : Prop :=
  match clock with
  | none => False
  | some now => t.toNat ≤ now.toNat

/-- Every timestamp that a rule may read was stored from an earlier `now` (00_scope.md R18, 10_state.md R45). -/
def ClockInv (p : Params) (c : Classifier) (clock : Option Time) : Prop :=
  (∀ k, c.lastKc = some k → notAfter c.tPress clock) ∧
  (∀ k, c.lastKc = some k → keyClass p k = .repeatKey → notAfter c.tFire clock) ∧
  (1 ≤ c.run → notAfter c.tLastRel clock)

/-- The invariant of the whole machine, for the parameters it carries. -/
def Good (s : State) : Prop :=
  s.params.wf = true ∧
  DecoderInv s.params s.prod ∧ LatchInv s.params s.prod ∧ CounterInv s.params s.prod ∧
  ClassifierInv s.params s.cls ∧ ClockInv s.params s.cls s.hostClock

/-- The classifier with every timestamp that no rule can read replaced by 0: `T_RELEASE` (no rule reads it, 10_state.md R42),
`T_PRESS` with no key down (R41), `T_FIRE` unless a `Repeat` key is down, `T_LASTREL` with no run (R43). -/
def readableTimes (p : Params) (c : Classifier) : Classifier :=
  { c with
    tRelease := 0
    tPress := if c.lastKc.isSome then c.tPress else 0
    tFire := if c.lastKc.map (keyClass p) = some .repeatKey then c.tFire else 0
    tLastRel := if 1 ≤ c.run then c.tLastRel else 0 }

/-- Two states that differ at most in timestamps no rule can read. -/
def SameReadable (s t : State) : Prop :=
  { s with cls := readableTimes s.params s.cls } = { t with cls := readableTimes t.params t.cls }

/-- Two results of the same kind, with next states that differ at most in timestamps no rule can read. -/
def SameResult : Result → Result → Prop
  | .next s, .next t => SameReadable s t
  | .fault a, .fault b => a = b
  | .refused a, .refused b => a = b
  | _, _ => False

end Sys2Proof.Machine
end

