-- ==== Sys2Proof/Certificates/Slice0/Obligations.lean ====
section
/-! DEFINITION. The statements for the provers. The helpers under `Sys2Proof.Claims` are written from the rules of spec/, not from
the model's own operations. -/

namespace Sys2Proof.Claims

open Sys2Proof.Machine

/-- `LO <= w < HI` (00_scope.md R6, R13). -/
def Within (win : Window) (w : Width) : Prop := win.lo ≤ w.toNat ∧ w.toNat < win.hi

/-- `w` in none of the windows. -/
def InNone (wins : List Window) (w : Width) : Prop := ∀ win ∈ wins, ¬ Within win w

/-- The producer after `EMIT(c)` with the maximum `m`, as 44_emit_supervisor.md R161 and R160 write it. -/
def afterEmit (m : BitVec 5) (c : Option (BitVec 24)) (p : Producer) : Producer :=
  { p with
    scan := c.getD p.scan
    cnt := if p.cnt.toNat < m.toNat then p.cnt + 1 else p.cnt
    active := true, busIdle := true, dstate := .idle, acc := 0, idx := 0 }

/-- The outputs of an event that performs `EMIT` or a held tick: `notify`, and `wake` when the counter was at `CNT_MAX` and the
bus idle (R160). -/
def emitOutputs (s : State) (label : EventOutcome) : Outputs :=
  { notify := true, wake := decide (s.prod.cnt = s.params.cntMax) && s.prod.busIdle, outcome := label }

/-- The producer after `ABORT` in a `PULSE` (40_lead_classifier.md R110, R111). -/
def afterAbort (p : Producer) : Producer :=
  { p with irArmed := true, dstate := .idle, acc := 0, idx := 0 }

/-- `PULSE w`, spelled as the event and as the row, completes with this producer and these outputs, and leaves the host
agent, the parameters and the pending words as they are. -/
def PulseEffect (row : Width → Instr) (w : Width) (s : State) (p : Producer) (o : Outputs) : Prop :=
  exec (.pulse w) s = .next { s with prod := p, outp := o } ∧
  exec (row w) s = .next { s with prod := p, outp := o }

/-- An event of the producer port completes with this producer and these outputs and leaves everything else. -/
def ProducerEffect (i : Instr) (s : State) (p : Producer) (o : Outputs) : Prop :=
  exec i s = .next { s with prod := p, outp := o }

/-- An event of the host port at `now` completes with this classifier and these actions; the producer, the parameters and
the pending words are left as they are, and `now` becomes the last time of the host trace. -/
def HostEffect (i : Instr) (now : Time) (s : State) (c : Classifier) (acts : List Action) : Prop :=
  exec i s = .next { s with cls := c, hostClock := some now, outp := { out := acts } }

/-- The host start-up requirements of 70_reset_and_hazards.md R263 (b). -/
def HostUp (s : State) : Prop :=
  (∃ tb, s.params.table = some tb ∧ tb.length ≤ s.params.tableMax) ∧ s.params.timerOk = true

/-- `now` is not below the last `now` of the host trace (47_host_classifier.md R201). -/
def ClockOk (now : Time) (s : State) : Prop :=
  ∀ last, s.hostClock = some last → last.toNat ≤ now.toNat

/-- The key that a snapshot shows (R204, R205). -/
def shown (s : State) (snap : BitVec 64) : Option (Keycode × String) :=
  lookup s.params (extract s.params snap)

/-- The rows of the transition table, column by column (30_encoding.md R95): `DSTATE` before, and the class of `w` written out
(R88, R89). -/
def InRow (p : Params) (d : DState) (w : Width) (r : PulseRow) : Prop :=
  match r with
  | .idleLRc5 => d = .idle ∧ Within p.rc5Lead w
  | .idleLSirc => d = .idle ∧ Within p.sircLead w
  | .idleLNecr => d = .idle ∧ Within p.necrLead w
  | .idleLNec => d = .idle ∧ Within p.necLead w
  | .idleLNoise => d = .idle ∧ InNone [p.rc5Lead, p.sircLead, p.necrLead, p.necLead] w
  | .necCollectN0 => d = .necCollect ∧ Within p.necBit w ∧ w.toNat < p.necThr
  | .necCollectN1 => d = .necCollect ∧ Within p.necBit w ∧ p.necThr ≤ w.toNat
  | .necCollectOut => d = .necCollect ∧ ¬ Within p.necBit w
  | .sircCollectS0 => d = .sircCollect ∧ Within p.sircBit w ∧ w.toNat < p.sircThr
  | .sircCollectS1 => d = .sircCollect ∧ Within p.sircBit w ∧ p.sircThr ≤ w.toNat
  | .sircCollectOut => d = .sircCollect ∧ ¬ Within p.sircBit w
  | .rc5Mid1T1 => d = .rc5Mid1 ∧ Within p.rc5T1 w
  | .rc5Mid1T15 => d = .rc5Mid1 ∧ Within p.rc5T15 w
  | .rc5Mid1T2 => d = .rc5Mid1 ∧ Within p.rc5T2 w
  | .rc5Start0T1 => d = .rc5Start0 ∧ Within p.rc5T1 w
  | .rc5Start0T15 => d = .rc5Start0 ∧ Within p.rc5T15 w
  | .rc5Start0T2 => d = .rc5Start0 ∧ Within p.rc5T2 w
  | .rc5Out => (d = .rc5Mid1 ∨ d = .rc5Start0) ∧ InNone [p.rc5T1, p.rc5T15, p.rc5T2] w
  | .transientAny => d = .leadClassified ∨ d = .rc5Mid0 ∨ d = .reserved7

/-- `acc'` is `acc` with bit `i` replaced by `b`: `ACC[i] <- b` (00_scope.md R15). -/
def BitPlaced (acc acc' : BitVec 32) (i : Nat) (b : Bool) : Prop :=
  ∀ j, j < 32 → acc'.getLsbD j = if j = i then b else acc.getLsbD j

/-- `(ACC << 1 | b)[31:0]` (R15). -/
def shifted (acc : BitVec 32) (b : Bool) : BitVec 32 := acc.extractLsb' 0 31 ++ (if b then 1#1 else 0#1)

end Sys2Proof.Claims

section

open Sys2Proof Sys2Proof.Machine Sys2Proof.Claims

/-! ## Reset -/

/-- The reset tables of 10_state.md section 8 (the spec's own decisions D24, D40): every producer element, the image
`00 FF FF FF 00 00 00 00`, and the classifier, less the four timestamps, which the spec gives no value. The value of `RAMP` is
the parameter `RAMP_INIT` at its default. -/
def Obligations.ResetValues : Prop :=
  State.reset.prod =
    { cnt := 0, dirA := false, dirB := false, active := false, scan := 0xFFFFFF, btn := 0
      dstate := .idle, acc := 0, idx := 0
      irArmed := false, rotArmed := false, btnIrqEn := true, btnRun := false, busIdle := true } ∧
  regImage State.reset.prod = [0x00, 0xFF, 0xFF, 0xFF, 0x00, 0x00, 0x00, 0x00] ∧
  State.reset.cls.lastKc = none ∧ State.reset.cls.dacc = 0 ∧ State.reset.cls.run = 0 ∧
  State.reset.cls.ramp = 500 ∧ State.reset.cls.deadline = none

/-- `PRST` (70_reset_and_hazards.md section 1, decision D24) in any state: the producer reset values, with the two channels at
the sentinels of the parameters, no output, the host untouched. The rule writes them as 0xFFFFFF and 0; that they are the parameters
`SCAN_SENTINEL` and `BTN_SENTINEL` at every value of them is the model's choice (log entry 8). -/
def Obligations.PrstResetsProducer : Prop :=
  ∀ s : State, ProducerEffect .prst s
    { cnt := 0, dirA := false, dirB := false, active := false
      scan := s.params.scanSentinel, btn := s.params.btnSentinel
      dstate := .idle, acc := 0, idx := 0
      irArmed := false, rotArmed := false, btnIrqEn := true, btnRun := false, busIdle := true } {}

/-- `HRST` (70_reset_and_hazards.md section 1, decision D40), with the host start-up requirements: the classifier's reset
values (the four timestamps, which the spec gives no value, are left open), no output, the producer untouched, the next
`now` unconstrained. -/
def Obligations.HrstResetsClassifier : Prop :=
  ∀ s : State, HostUp s →
    ∃ c : Classifier, exec .hrst s = .next { s with cls := c, hostClock := none, outp := {} } ∧
      c.lastKc = none ∧ c.dacc = 0 ∧ c.run = 0 ∧ c.ramp = s.params.rampInit ∧ c.deadline = none

/-- The outcomes 4 and 5 of 60_exceptions.md section 1: with no table, with one of more than `TABLE_MAX` entries, or with no
timer, no event of the host port has a step. The model's choices (log entry 15): that the stop is a fault, that a table too
long is a malformed one, and that the table is tested before the timer where both fail. -/
def Obligations.HostEventsFaultWithoutTableOrTimer : Prop :=
  ∀ (i : Instr) (s : State), i.onHostPort = true →
    (s.params.table = none → exec i s = .fault .fatalNoTable) ∧
    (∀ tb, s.params.table = some tb → s.params.tableMax < tb.length → exec i s = .fault .fatalNoTable) ∧
    (∀ tb, s.params.table = some tb → tb.length ≤ s.params.tableMax → s.params.timerOk = false →
      exec i s = .fault .fatalNoTimer)

/-! ## Encoding, decoding, stepping -/

/-- Decode and encode agree on every instruction: every event decodes back to itself with every operand, and a row of the
transition table to its `PULSE`. -/
def Obligations.DecodeOfEncodeIsTheEvent : Prop :=
  ∀ i : Instr, decode (encode i) = .instr i.event

/-- Each word has at most one meaning: the encoding of what a word decodes to is that word. -/
def Obligations.EncodeOfDecodeIsTheWord : Prop :=
  ∀ (e : EventWord) (i : Instr), decode e = .instr i → encode i = e

/-- The table decoder reads the word of `PULSE w` (op 0x01, the 16 bits above `w` zero) as the row of the transition table that
`DSTATE` and the class of `w` name, each row with its `DSTATE` and its window written out, and every state and width is in
some row. That a row is an instruction of its own is the model's reading of the opcode table (log entry 4). -/
def Obligations.RowsDecodeInTheirState : Prop :=
  ∀ (p : Params) (d : DState) (w : Width), p.wf = true →
    (∀ r, InRow p d w r → decodeIn p d (.p (0x01#8 ++ (0x0000#16 ++ w))) = .instr (r.instr w)) ∧
    ∃ r, InRow p d w r

/-- Words written out from the encodings of 30_encoding.md and 95_test_vectors.md. -/
def Obligations.SampleWordsDecode : Prop :=
  decodeTableWord 40 0x0100001A5E = some (.pulse 6750) ∧
  decodeTableWord 40 0x0200000000 = some .irto ∧
  decodeTableWord 40 0x0600000100 = some (.btne 0x100) ∧
  decodeTableWord 40 0x0700000001 = some (.btnt true) ∧
  decodeTableWord 40 0x0900000000 = some .read ∧
  decodeTableWord 136 0x81000000000000006C0000000000000C82 = some (.hsnap 108 0xC82) ∧
  decodeTableWord 136 0x8200000000000009600000000000000000 = some (.htmr 2400)

/-- A word with a reserved event code, or with a non-zero must-be-zero field, is refused by name (decision D34). -/
def Obligations.ReservedWordsRefused : Prop :=
  ∀ (s : State) (rest : List EventWord),
    (∀ b : BitVec 40, s.pending = .p b :: rest →
      ((b.extractLsb' 32 8).toNat = 0 ∨ 0x0A < (b.extractLsb' 32 8).toNat → step s = .refused .reservedEvent) ∧
      (((b.extractLsb' 32 8).toNat = 0x01 ∧ b.extractLsb' 16 16 ≠ 0) ∨
       ((b.extractLsb' 32 8).toNat = 0x07 ∧ b.extractLsb' 1 31 ≠ 0) ∨
       ((b.extractLsb' 32 8).toNat ∈ [0x02, 0x03, 0x04, 0x05, 0x08, 0x09, 0x0A] ∧ b.extractLsb' 0 32 ≠ 0) →
      step s = .refused .nonzeroMbz)) ∧
    (∀ b : BitVec 136, s.pending = .h b :: rest →
      ((b.extractLsb' 128 8).toNat < 0x81 ∨ 0x85 < (b.extractLsb' 128 8).toNat → step s = .refused .reservedEvent) ∧
      (((b.extractLsb' 128 8).toNat ∈ [0x82, 0x84, 0x85] ∧ b.extractLsb' 0 64 ≠ 0) ∨
       ((b.extractLsb' 128 8).toNat = 0x83 ∧ b.extractLsb' 0 128 ≠ 0) →
      step s = .refused .nonzeroMbz))

/-- A step runs the decoded instruction: the first pending word is taken away and the instruction it decodes to runs on the
state without it. -/
def Obligations.StepRunsTheDecodedEvent : Prop :=
  ∀ (s : State) (e : EventWord) (rest : List EventWord) (i : Instr),
    s.pending = e :: rest → decode e = .instr i → step s = exec i { s with pending := rest }

/-! ## `PULSE` in `Idle` -/

/-- The five lead classes at the document's numbers, each window half-open (the spec's own decision D3, log entry 20: the shared
bound 6190 belongs to `L_NEC`). -/
def Obligations.LeadClassesAreTheTable : Prop :=
  ∀ (p : Params) (w : Width),
    p.rc5Lead = ⟨750, 1050⟩ → p.sircLead = ⟨1400, 1600⟩ → p.necrLead = ⟨5060, 6190⟩ → p.necLead = ⟨6190, 7310⟩ →
    (leadClass p w = .rc5 ↔ 750 ≤ w.toNat ∧ w.toNat < 1050) ∧
    (leadClass p w = .sirc ↔ 1400 ≤ w.toNat ∧ w.toNat < 1600) ∧
    (leadClass p w = .necr ↔ 5060 ≤ w.toNat ∧ w.toNat < 6190) ∧
    (leadClass p w = .nec ↔ 6190 ≤ w.toNat ∧ w.toNat < 7310) ∧
    (leadClass p w = .noise ↔ w.toNat < 750 ∨ (1050 ≤ w.toNat ∧ w.toNat < 1400) ∨
      (1600 ≤ w.toNat ∧ w.toNat < 5060) ∨ 7310 ≤ w.toNat)

/-- A SIRC or an NEC lead starts its collector. -/
def Obligations.SircAndNecLeadsStartTheirCollectors : Prop :=
  ∀ (s : State) (w : Width), s.params.wf = true → s.prod.dstate = .idle →
    (Within s.params.sircLead w → PulseEffect .pulseIdleLSirc w s
      { s.prod with irArmed := true, dstate := .sircCollect, acc := 0, idx := 0 } {}) ∧
    (Within s.params.necLead w → PulseEffect .pulseIdleLNec w s
      { s.prod with irArmed := true, dstate := .necCollect, acc := 0, idx := 0 } {})

/-- An RC5 lead starts the RC5 collector with both start bits accumulated (the preload is the spec's own decision D13). -/
def Obligations.Rc5LeadStartsWithTwoBits : Prop :=
  ∀ (s : State) (w : Width), s.params.wf = true → s.prod.dstate = .idle → Within s.params.rc5Lead w →
    PulseEffect .pulseIdleLRc5 w s { s.prod with irArmed := true, dstate := .rc5Mid1, acc := 3, idx := 2 } {}

/-- An NEC repeat lead emits with the code kept, orphan or not (decision D11; D14 and D16 for what the emission wakes and notifies). -/
def Obligations.NecRepeatEmitsWithoutACode : Prop :=
  ∀ (s : State) (w : Width), s.params.wf = true → s.prod.dstate = .idle → Within s.params.necrLead w →
    PulseEffect .pulseIdleLNecr w s (afterEmit s.params.cntMax none { s.prod with irArmed := true }) (emitOutputs s .ok)

/-- A width outside all four lead windows leaves `DSTATE` at `Idle` and every register element alone; where `ACC` and `IDX`
are 0, as they are in `Idle`, the only producer state it changes is `IR_ARMED`. -/
def Obligations.NoiseInIdleOnlyArmsTheSupervisor : Prop :=
  ∀ (s : State) (w : Width), s.prod.dstate = .idle →
    InNone [s.params.rc5Lead, s.params.sircLead, s.params.necrLead, s.params.necLead] w →
    PulseEffect .pulseIdleLNoise w s (afterAbort s.prod) { outcome := .noiseAbort } ∧
    (s.prod.acc = 0 → s.prod.idx = 0 →
      PulseEffect .pulseIdleLNoise w s { s.prod with irArmed := true } { outcome := .noiseAbort })

/-! ## The collectors -/

/-- An out-of-window pulse aborts an NEC, SIRC or RC5 collection, and so does a `T2` in `Rc5Start0`. The spec's own decisions:
the aborting pulse is consumed (D5), and the RC5 windows and the abort on `T2` (D13; log entries 20 and 21). -/
def Obligations.OutOfWindowPulseAborts : Prop :=
  ∀ (s : State) (w : Width),
    (s.prod.dstate = .necCollect → ¬ Within s.params.necBit w →
      PulseEffect .pulseNecCollectOut w s (afterAbort s.prod) { outcome := .noiseAbort }) ∧
    (s.prod.dstate = .sircCollect → ¬ Within s.params.sircBit w →
      PulseEffect .pulseSircCollectOut w s (afterAbort s.prod) { outcome := .noiseAbort }) ∧
    (s.prod.dstate = .rc5Mid1 ∨ s.prod.dstate = .rc5Start0 →
      InNone [s.params.rc5T1, s.params.rc5T15, s.params.rc5T2] w →
      PulseEffect .pulseRc5Out w s (afterAbort s.prod) { outcome := .noiseAbort }) ∧
    (s.params.wf = true → s.prod.dstate = .rc5Start0 → Within s.params.rc5T2 w →
      PulseEffect .pulseRc5Start0T2 w s (afterAbort s.prod) { outcome := .noiseAbort })

/-- A pulse that finds `DSTATE` at a transient or reserved value aborts (totality; decision D5). -/
def Obligations.TransientStatesAbort : Prop :=
  ∀ (s : State) (w : Width),
    s.prod.dstate = .leadClassified ∨ s.prod.dstate = .rc5Mid0 ∨ s.prod.dstate = .reserved7 →
    PulseEffect .pulseTransientAny w s (afterAbort s.prod) { outcome := .noiseAbort }

/-- An in-window NEC pulse before the last (`NEC_BITS`) places one bit at `ACC[IDX]` and counts it (decisions D6 and D7). -/
def Obligations.NecPulsePlacesABit : Prop :=
  ∀ (s : State) (w : Width), s.params.wf = true → s.prod.dstate = .necCollect → s.prod.idx.toNat + 1 < s.params.necBits →
    Within s.params.necBit w →
    ∃ acc, BitPlaced s.prod.acc acc s.prod.idx.toNat (decide (s.params.necThr ≤ w.toNat)) ∧
      PulseEffect (if s.params.necThr ≤ w.toNat then .pulseNecCollectN1 else .pulseNecCollectN0) w s
        { s.prod with irArmed := true, acc := acc, idx := s.prod.idx + 1 } {}

/-- The last in-window NEC pulse (the 32nd at the default `NEC_BITS`) validates the frame and emits its code, whatever the code
(decisions D8, D9, D10; D14 and D16 for what the emission notifies and wakes): standard NEC, extended NEC, or `NEC_INVALID` with the
outcome `ChecksumFail`. `b0` to `b3` are the bytes of the completed accumulator. The rules write the code of a bad frame as
0x000000; that it is the parameter `NEC_INVALID` at every value of it is the model's choice (log entry 8). -/
def Obligations.NecFrameIsValidatedAndEmitted : Prop :=
  ∀ (s : State) (w : Width) (b0 b1 b2 b3 : Byte), s.params.wf = true → s.prod.dstate = .necCollect →
    s.prod.idx.toNat + 1 = s.params.necBits → Within s.params.necBit w →
    BitPlaced s.prod.acc (b3 ++ b2 ++ b1 ++ b0) s.prod.idx.toNat (decide (s.params.necThr ≤ w.toNat)) →
    PulseEffect (if s.params.necThr ≤ w.toNat then .pulseNecCollectN1 else .pulseNecCollectN0) w s
      (afterEmit s.params.cntMax (some
        (if b2 = ~~~b3 then
          if b0 = ~~~b1 then 0x00#8 ++ b0 ++ b2 else b1 ++ b0 ++ b2
        else s.params.necInvalid)) { s.prod with irArmed := true })
      (emitOutputs s (if b2 = ~~~b3 then .ok else .checksumFail))

/-- An in-window SIRC pulse before the last places one bit at `ACC[IDX]` and counts it; the last one emits `ACC[19:0]`. The spec's
own decisions (log entry 20): the threshold and `SIRC_BITS` (D12), the placement (D7), the payload (D9), and what an emission
notifies and wakes (D14, D16). -/
def Obligations.SircPulsePlacesABitOrEmits : Prop :=
  ∀ (s : State) (w : Width), s.params.wf = true → s.prod.dstate = .sircCollect →
    s.prod.idx.toNat < s.params.sircBits → Within s.params.sircBit w →
    ∃ acc, BitPlaced s.prod.acc acc s.prod.idx.toNat (decide (s.params.sircThr ≤ w.toNat)) ∧
      (s.prod.idx.toNat + 1 ≠ s.params.sircBits →
        PulseEffect (if s.params.sircThr ≤ w.toNat then .pulseSircCollectS1 else .pulseSircCollectS0) w s
          { s.prod with irArmed := true, acc := acc, idx := s.prod.idx + 1 } {}) ∧
      (s.prod.idx.toNat + 1 = s.params.sircBits →
        PulseEffect (if s.params.sircThr ≤ w.toNat then .pulseSircCollectS1 else .pulseSircCollectS0) w s
          (afterEmit s.params.cntMax (some (0#4 ++ acc.extractLsb' 0 20)) { s.prod with irArmed := true }) (emitOutputs s .ok))

/-- The one-bit rows of the RC5 table, before and at the last bit, `RC5_BITS` (decision D13): `T1` in `Rc5Mid1` is a 1, `T15` in `Rc5Mid1`
a 0 and `Rc5Start0` next, `T1` in `Rc5Start0` a 0. Also the spec's own decisions (log entry 20): the payload at the last bit (D9), and
what its emission wakes and notifies (D14, D16). -/
def Obligations.Rc5OneBitRows : Prop :=
  ∀ (s : State) (w : Width) (row : Width → Instr) (b : Bool) (d : DState), s.params.wf = true →
    (s.prod.dstate = .rc5Mid1 ∧ Within s.params.rc5T1 w ∧ row = .pulseRc5Mid1T1 ∧ b = true ∧ d = .rc5Mid1) ∨
    (s.prod.dstate = .rc5Mid1 ∧ Within s.params.rc5T15 w ∧ row = .pulseRc5Mid1T15 ∧ b = false ∧ d = .rc5Start0) ∨
    (s.prod.dstate = .rc5Start0 ∧ Within s.params.rc5T1 w ∧ row = .pulseRc5Start0T1 ∧ b = false ∧ d = .rc5Start0) →
    (s.prod.idx.toNat + 1 < s.params.rc5Bits → PulseEffect row w s
      { s.prod with irArmed := true, dstate := d, acc := shifted s.prod.acc b, idx := s.prod.idx + 1 } {}) ∧
    (s.prod.idx.toNat + 1 = s.params.rc5Bits → PulseEffect row w s
      (afterEmit s.params.cntMax (some (0#11 ++ (shifted s.prod.acc b).extractLsb' 0 13)) { s.prod with irArmed := true })
      (emitOutputs s .ok))

/-- The two-bit rows of the RC5 table (decision D13): `T2` in `Rc5Mid1` and `T15` in `Rc5Start0` accumulate 0 then 1 and rest in
`Rc5Mid1`; the frame is emitted at the last bit, `RC5_BITS`, and a bit the row would add after it is dropped. Also the spec's own decisions (log entry 20): the payload at the last bit (D9), and what
its emission wakes and notifies (D14, D16). -/
def Obligations.Rc5TwoBitRows : Prop :=
  ∀ (s : State) (w : Width) (row : Width → Instr), s.params.wf = true →
    (s.prod.dstate = .rc5Mid1 ∧ Within s.params.rc5T2 w ∧ row = .pulseRc5Mid1T2) ∨
    (s.prod.dstate = .rc5Start0 ∧ Within s.params.rc5T15 w ∧ row = .pulseRc5Start0T15) →
    (s.prod.idx.toNat + 2 < s.params.rc5Bits → PulseEffect row w s
      { s.prod with
        irArmed := true, dstate := .rc5Mid1, acc := shifted (shifted s.prod.acc false) true
        idx := s.prod.idx + 2 } {}) ∧
    (s.prod.idx.toNat + 2 = s.params.rc5Bits → PulseEffect row w s
      (afterEmit s.params.cntMax (some (0#11 ++ (shifted (shifted s.prod.acc false) true).extractLsb' 0 13))
        { s.prod with irArmed := true }) (emitOutputs s .ok)) ∧
    (s.prod.idx.toNat + 1 = s.params.rc5Bits → PulseEffect row w s
      (afterEmit s.params.cntMax (some (0#11 ++ (shifted s.prod.acc false).extractLsb' 0 13)) { s.prod with irArmed := true })
      (emitOutputs s .ok))

/-- The nineteen rows are spellings of one word: in every state, each does what `PULSE` does (the model's choice where the
row is not the selected one, log entry 4). -/
def Obligations.RowsAgreeWithPulse : Prop :=
  ∀ (r : PulseRow) (w : Width) (s : State), exec (r.instr w) s = exec (.pulse w) s

/-- What a `PULSE` can and cannot do, in every state and for every width: it completes; it arms the supervisor; without
`notify` the eight register bytes are unchanged; it never clears `ACTIVE`, never lowers `CNT`, and never changes `DIR_A`,
`DIR_B`, `BTN`, `ROT_ARMED`, `BTN_IRQ_EN`, `BTN_RUN` or the host. -/
def Obligations.PulseLiberties : Prop :=
  ∀ (s : State) (w : Width), ∃ t, exec (.pulse w) s = .next t ∧
    t.prod.irArmed = true ∧
    (t.outp.notify = false → regImage t.prod = regImage s.prod) ∧
    (s.prod.active = true → t.prod.active = true) ∧
    s.prod.cnt.toNat ≤ t.prod.cnt.toNat ∧
    t.prod.dirA = s.prod.dirA ∧ t.prod.dirB = s.prod.dirB ∧ t.prod.btn = s.prod.btn ∧
    t.prod.rotArmed = s.prod.rotArmed ∧ t.prod.btnIrqEn = s.prod.btnIrqEn ∧ t.prod.btnRun = s.prod.btnRun ∧
    t.cls = s.cls ∧ t.hostClock = s.hostClock ∧ t.params = s.params ∧ t.pending = s.pending

/-- During an NEC collection: after fewer in-window pulses than `NEC_BITS` from the start of collection, the decoder is still collecting,
`IDX` is their number, `ACC` holds their bits in order of arrival, least significant first, and the register bytes have not
changed. The 31 and 32 of the rules' prose are read from the parameter `NEC_BITS`, the model's choice (log entry 8).
The threshold and the placement are the spec's own decisions (D6, D7; log entry 20). -/
def Obligations.NecCollectionHoldsItsBits : Prop :=
  ∀ (s : State) (ws : List Width), s.params.wf = true → s.prod.dstate = .necCollect → s.prod.acc = 0 → s.prod.idx = 0 →
    ws.length + 1 ≤ s.params.necBits → (∀ w ∈ ws, Within s.params.necBit w) →
    ∃ t, runEvents (ws.map .pulse) s = .next t ∧
      t.prod.dstate = .necCollect ∧ t.prod.idx.toNat = ws.length ∧
      (∀ j, j < 32 → t.prod.acc.getLsbD j = (ws.map (fun w => decide (s.params.necThr ≤ w.toNat))).getD j false) ∧
      regImage t.prod = regImage s.prod ∧ t.cls = s.cls

/-- A whole SIRC frame: from the start of collection, `SIRC_BITS` in-window pulses end in `Idle` with the received bits, first
one least significant, in the scan channel, the counter bumped, `ACTIVE` set and `notify` raised; the button channel and
the direction flags are as before. The spec's own decisions (log entry 20): the placement (D7), the payload (D9), the threshold and
`SIRC_BITS` (D12), and the `notify` (D16). -/
def Obligations.SircFrameDeliversItsBits : Prop :=
  ∀ (s : State) (ws : List Width), s.params.wf = true → s.prod.dstate = .sircCollect → s.prod.acc = 0 → s.prod.idx = 0 →
    ws.length = s.params.sircBits → (∀ w ∈ ws, Within s.params.sircBit w) →
    ∃ t, runEvents (ws.map .pulse) s = .next t ∧
      t.prod.dstate = .idle ∧ t.prod.acc = 0 ∧ t.prod.idx = 0 ∧
      (∀ j, j < 24 → t.prod.scan.getLsbD j = (ws.map (fun w => decide (s.params.sircThr ≤ w.toNat))).getD j false) ∧
      t.prod.cnt = (if s.prod.cnt.toNat < s.params.cntMax.toNat then s.prod.cnt + 1 else s.prod.cnt) ∧
      t.prod.active = true ∧ t.outp.notify = true ∧
      t.prod.btn = s.prod.btn ∧ t.prod.dirA = s.prod.dirA ∧ t.prod.dirB = s.prod.dirB

/-! ## Supervisor, latch, port -/

/-- `IRTO` (decisions D15, D16, D17): armed, it releases the scan channel, clears `ACTIVE` and `CNT`, resets the decoder and
notifies; not armed, it does nothing. -/
def Obligations.IrtoReleasesTheScanChannel : Prop :=
  ∀ s : State,
    (s.prod.irArmed = true → ProducerEffect .irto s
      { s.prod with
        active := false, cnt := 0, scan := s.params.scanSentinel, dstate := .idle, acc := 0, idx := 0
        irArmed := false, busIdle := true } { notify := true }) ∧
    (s.prod.irArmed = false → ProducerEffect .irto s s.prod {})

/-- The rotary latch (decisions D16, D18, D19): `ROTA` and `ROTB` set one direction and clear the other; `ROTTO`, armed, clears both
and `ACTIVE` and notifies; not armed, it does nothing. -/
def Obligations.RotaryLatchEffects : Prop :=
  ∀ s : State,
    ProducerEffect .rota s
      { s.prod with dirA := true, dirB := false, active := true, rotArmed := true, busIdle := true }
      { notify := true } ∧
    ProducerEffect .rotb s
      { s.prod with dirA := false, dirB := true, active := true, rotArmed := true, busIdle := true }
      { notify := true } ∧
    (s.prod.rotArmed = true → ProducerEffect .rotto s
      { s.prod with dirA := false, dirB := false, active := false, rotArmed := false, busIdle := true }
      { notify := true }) ∧
    (s.prod.rotArmed = false → ProducerEffect .rotto s s.prod {})

/-- `BTNE id` (decision D20): accepted, it latches the identity with the press-active bit; masked, it does nothing. That every
32-bit `id` is a button identity is the model's choice (log entry 25). -/
def Obligations.ButtonEdgeLatchesOrIsMasked : Prop :=
  ∀ (s : State) (id : BitVec 32),
    (s.prod.btnIrqEn = true → ProducerEffect (.btne id) s
      { s.prod with btn := id ||| 1, active := true, btnIrqEn := false, btnRun := true, busIdle := true }
      { notify := true }) ∧
    (s.prod.btnIrqEn = false → ProducerEffect (.btne id) s s.prod {})

/-- `BTNT` (decisions D14 to D16, D20): with the timer running, a held tick counts by the same counter and wake law as an emission and
the release tick stops the timer, re-enables the edge and clears the button channel, `ACTIVE` and `CNT`; with the timer
stopped a tick does nothing. -/
def Obligations.ButtonTickCountsReleasesOrIsIgnored : Prop :=
  ∀ s : State,
    (s.prod.btnRun = true → ProducerEffect (.btnt true) s
      { s.prod with
        cnt := if s.prod.cnt.toNat < s.params.cntMax.toNat then s.prod.cnt + 1 else s.prod.cnt
        active := true
        busIdle := true } (emitOutputs s .ok)) ∧
    (s.prod.btnRun = true → ProducerEffect (.btnt false) s
      { s.prod with
        btnRun := false, btnIrqEn := true, btn := s.params.btnSentinel, active := false, cnt := 0, busIdle := true }
      { notify := true }) ∧
    (s.prod.btnRun = false → ∀ level, ProducerEffect (.btnt level) s s.prod {})

/-- `CONSUME` clears `ACTIVE` and nothing else, and raises nothing (decision D21). -/
def Obligations.ConsumeClearsActiveOnly : Prop :=
  ∀ s : State, ProducerEffect .consume s { s.prod with active := false } {}

/-- `READ` answers the eight bytes in the layout of 20_memory.md section 1 (little-endian channels, decision D22) and changes
`BUS_IDLE` only (decision D14). -/
def Obligations.ReadReturnsTheRegisterImage : Prop :=
  ∀ s : State, ∃ b0 : Byte,
    ProducerEffect .read s { s.prod with busIdle := false }
      { ret := some [b0, s.prod.scan.extractLsb' 0 8, s.prod.scan.extractLsb' 8 8, s.prod.scan.extractLsb' 16 8,
          s.prod.btn.extractLsb' 0 8, s.prod.btn.extractLsb' 8 8, s.prod.btn.extractLsb' 16 8,
          s.prod.btn.extractLsb' 24 8] } ∧
    b0.extractLsb' 0 5 = s.prod.cnt ∧ b0.getLsbD 5 = s.prod.dirA ∧ b0.getLsbD 6 = s.prod.dirB ∧
    b0.getLsbD 7 = s.prod.active

/-- Reading twice with no event between returns identical bytes, and a read changes no byte of the window and no state but
`BUS_IDLE`. -/
def Obligations.ReadIsIdempotent : Prop :=
  ∀ s : State, ∃ t u, exec .read s = .next t ∧ exec .read t = .next u ∧
    u.outp.ret = t.outp.ret ∧ t.outp.ret = some (regImage s.prod) ∧
    t.prod = { s.prod with busIdle := false } ∧ u.prod = t.prod ∧
    ∀ off, readByte u.prod off = readByte s.prod off

/-! ## The host -/

/-- `HTMR` armed and due: the open run is dispatched as one `Track` and reset; with no run the timer is only disarmed. Not armed or
early, it is refused (decision D30). -/
def Obligations.TimerExpiryDispatchesTheRun : Prop :=
  ∀ (s : State) (now : Time), HostUp s → ClockOk now s →
    (∀ t, s.cls.deadline = some t → t ≤ now.toNat →
      (1 ≤ s.cls.run → HostEffect (.htmr now) now s { s.cls with deadline := none, dacc := 0, run := 0 }
        [.track s.cls.dacc]) ∧
      (s.cls.run = 0 → HostEffect (.htmr now) now s { s.cls with deadline := none } [])) ∧
    ((s.cls.deadline = none ∨ ∃ t, s.cls.deadline = some t ∧ now.toNat < t) →
      exec (.htmr now) s = .refused .timerNotDue)

/-- `HWAITTO` and `HFAULT` change no ClassifierState and produce no action (decision D31); `HFAULT` has the outcome
`HostBusFault`. That the event's `now` becomes the last host time is the model's choice (log entry 10). -/
def Obligations.WaitAndBusFaultChangeNothing : Prop :=
  ∀ (s : State) (now : Time), HostUp s → ClockOk now s →
    HostEffect (.hwaitto now) now s s.cls [] ∧
    exec (.hfault now) s = .next { s with hostClock := some now, outp := { outcome := .hostBusFault } }

/-- A host event whose `now` is below an earlier one is refused (decision D32). -/
def Obligations.BackwardClockRefused : Prop :=
  ∀ (s : State) (now last : Time) (snap : BitVec 64), HostUp s → s.hostClock = some last → now.toNat < last.toNat →
    exec (.hsnap now snap) s = .refused .clockWentBack ∧ exec (.htmr now) s = .refused .clockWentBack ∧
    exec (.hwaitto now) s = .refused .clockWentBack ∧ exec (.hfault now) s = .refused .clockWentBack

/-- The scan code of a snapshot the register can show (decision D25): nothing when `ACTIVE = 0`, else the scan channel, else
the button channel, else the direction flags. The rules write the released scan channel as 0xFFFFFF;
that it is the parameter `SCAN_SENTINEL` at every value of it is the model's choice (log entry 8). -/
def Obligations.ExtractOfARegisterImage : Prop :=
  ∀ (p : Params) (q : Producer),
    extract p (packBytes (regImage q)) =
      if q.active = false then none
      else if q.scan ≠ p.scanSentinel then some (0#8 ++ q.scan)
      else if q.btn ≠ p.btnSentinel then some q.btn
      else if q.dirA = true then some p.rotACode
      else if q.dirB = true then some p.rotBCode
      else none

/-- The lookup is exact and the first match wins (decision D37); no code and code 0 give none; an unbound code gives none. -/
def Obligations.LookupIsFirstExactMatch : Prop :=
  ∀ (p : Params) (pre post : List Binding) (e : Binding) (c : ScanCode),
    lookup p none = none ∧ lookup p (some 0) = none ∧
    (c ≠ 0 → p.table = some (pre ++ e :: post) → (∀ x ∈ pre, x.scancode ≠ c) → e.scancode = c →
      lookup p (some c) = some (e.keycode, e.command)) ∧
    (p.table = some pre → (∀ x ∈ pre, x.scancode ≠ c) → lookup p (some c) = none)

/-- A snapshot with no key, with none down, does nothing: case 1 of `HSNAP`. A released `Repeat` or `Generic` key produces no
action, and so does a `Power` or `Digit` press. -/
def Obligations.SnapshotsThatOnlyTrackTheKey : Prop :=
  ∀ (s : State) (now : Time) (snap : BitVec 64), HostUp s → ClockOk now s →
    (s.cls.lastKc = none → shown s snap = none → HostEffect (.hsnap now snap) now s s.cls []) ∧
    (∀ j, s.cls.lastKc = some j → shown s snap = none →
      keyClass s.params j = .repeatKey ∨ keyClass s.params j = .genericKey →
      HostEffect (.hsnap now snap) now s { s.cls with lastKc := none, tRelease := now } []) ∧
    (∀ k cmd, s.cls.lastKc = none → shown s snap = some (k, cmd) →
      keyClass s.params k = .powerKey ∨ (∃ d, keyClass s.params k = .digitKey d) →
      HostEffect (.hsnap now snap) now s { s.cls with lastKc := some k, tPress := now } [])

/-- A `Repeat` key fires at once when it goes down, and the delay is reset to its initial value. -/
def Obligations.RepeatKeyFiresOnPress : Prop :=
  ∀ (s : State) (now : Time) (snap : BitVec 64) (k : Keycode) (cmd : String), HostUp s → ClockOk now s →
    s.cls.lastKc = none → shown s snap = some (k, cmd) → keyClass s.params k = .repeatKey →
    HostEffect (.hsnap now snap) now s
      { s.cls with lastKc := some k, tPress := now, ramp := s.params.rampInit, tFire := now } [.cmd cmd]

/-- A held `Repeat` key fires again once the delay since its last fire has elapsed, and the delay then shrinks by the fixed
factor down to the floor (decision D27); before that, and for a held key of any other class, nothing happens. -/
def Obligations.HeldKeyRepeatsOnlyWhenTheDelayElapsed : Prop :=
  ∀ (s : State) (now : Time) (snap : BitVec 64) (k : Keycode) (cmd : String), HostUp s → ClockOk now s →
    s.cls.lastKc = some k → shown s snap = some (k, cmd) →
    (keyClass s.params k = .repeatKey → s.cls.ramp + s.cls.tFire.toNat ≤ now.toNat →
      HostEffect (.hsnap now snap) now s
        { s.cls with
          tFire := now
          ramp := max s.params.rampFloor (s.cls.ramp * s.params.rampNum / s.params.rampDen) } [.cmd cmd]) ∧
    (keyClass s.params k = .repeatKey → s.cls.tFire.toNat ≤ now.toNat → now.toNat < s.cls.ramp + s.cls.tFire.toNat →
      HostEffect (.hsnap now snap) now s s.cls []) ∧
    (keyClass s.params k ≠ .repeatKey → HostEffect (.hsnap now snap) now s s.cls [])

/-- A `Power` key does nothing when it goes down and while it stays down; released after at least `HOLD_MS` it fires one shutdown
action; a shorter activation fires none. -/
def Obligations.PowerKeyShutsDownOnLongRelease : Prop :=
  ∀ (s : State) (now : Time) (snap : BitVec 64) (k : Keycode) (cmd : String), HostUp s → ClockOk now s →
    keyClass s.params k = .powerKey →
    (s.cls.lastKc = none → shown s snap = some (k, cmd) →
      HostEffect (.hsnap now snap) now s { s.cls with lastKc := some k, tPress := now } []) ∧
    (s.cls.lastKc = some k → shown s snap = some (k, cmd) → HostEffect (.hsnap now snap) now s s.cls []) ∧
    (s.cls.lastKc = some k → shown s snap = none → s.cls.tPress.toNat ≤ now.toNat →
      HostEffect (.hsnap now snap) now s { s.cls with lastKc := none, tRelease := now }
        (if s.cls.tPress.toNat + s.params.holdMs ≤ now.toNat then [.shutdown] else []))

/-- A digit key released after at least `HOLD_MS` jumps to its preset and discards the run, and the timer stays as it is. -/
def Obligations.LongDigitJumpsToPreset : Prop :=
  ∀ (s : State) (now : Time) (snap : BitVec 64) (j : Keycode) (d : Fin 10), HostUp s → ClockOk now s →
    s.cls.lastKc = some j → keyClass s.params j = .digitKey d → shown s snap = none →
    s.cls.tPress.toNat + s.params.holdMs ≤ now.toNat →
    HostEffect (.hsnap now snap) now s { s.cls with lastKc := none, tRelease := now, dacc := 0, run := 0 }
      [.preset d.val]

/-- A digit key released earlier appends its digit to an open run of fewer than `RUN_MAX` digits whose last short release is less
than `TAP_MS` ago, and otherwise restarts the run with that digit; the timer is re-armed. The restart at the cap is the spec's
own decision D29; that `DEADLINE` is an exact sum with no wrap is the model's choice (log entry 12). -/
def Obligations.ShortDigitAppendsOrRestarts : Prop :=
  ∀ (s : State) (now : Time) (snap : BitVec 64) (j : Keycode) (d : Fin 10), HostUp s → ClockOk now s →
    s.cls.lastKc = some j → keyClass s.params j = .digitKey d → shown s snap = none →
    s.cls.tPress.toNat ≤ now.toNat → now.toNat < s.cls.tPress.toNat + s.params.holdMs →
    (1 ≤ s.cls.run → s.cls.tLastRel.toNat ≤ now.toNat) →
    HostEffect (.hsnap now snap) now s
      (if 1 ≤ s.cls.run ∧ s.cls.run < s.params.runMax ∧ now.toNat < s.cls.tLastRel.toNat + s.params.tapMs then
        { s.cls with
          lastKc := none, tRelease := now, dacc := s.cls.dacc * 10 + d.val, run := s.cls.run + 1, tLastRel := now
          deadline := some (now.toNat + s.params.tapMs) }
      else
        { s.cls with
          lastKc := none, tRelease := now, dacc := d.val, run := 1, tLastRel := now
          deadline := some (now.toNat + s.params.tapMs) }) []

/-- A `Generic` key is dispatched once when it goes down, never while it stays down, and not on release. -/
def Obligations.GenericKeyFiresOncePerPress : Prop :=
  ∀ (s : State) (now : Time) (snap : BitVec 64) (k : Keycode) (cmd : String), HostUp s → ClockOk now s →
    keyClass s.params k = .genericKey →
    (s.cls.lastKc = none → shown s snap = some (k, cmd) →
      HostEffect (.hsnap now snap) now s { s.cls with lastKc := some k, tPress := now } [.cmd cmd]) ∧
    (s.cls.lastKc = some k → shown s snap = some (k, cmd) → HostEffect (.hsnap now snap) now s s.cls []) ∧
    (s.cls.lastKc = some k → shown s snap = none →
      HostEffect (.hsnap now snap) now s { s.cls with lastKc := none, tRelease := now } [])

/-- A change of key is the release of the old key followed by the press of the new one at the same `now` (decision D26): it is
what a snapshot with no key and then this snapshot give, with the actions of both in that order. -/
def Obligations.KeyChangeIsReleaseThenPress : Prop :=
  ∀ (s t u : State) (now : Time) (snap gone : BitVec 64) (j k : Keycode) (cmd : String),
    s.cls.lastKc = some j → shown s snap = some (k, cmd) → j ≠ k → shown s gone = none →
    exec (.hsnap now gone) s = .next t → exec (.hsnap now snap) t = .next u →
    exec (.hsnap now snap) s = .next { u with outp := { out := t.outp.out ++ u.outp.out } }

/-- The ramp from its default start, and one decay step never rises and never falls below the floor. -/
def Obligations.RampSequenceAndBounds : Prop :=
  (List.range 12).map (fun n => (decay Params.default)^[n] 500) =
    [500, 425, 361, 306, 260, 221, 187, 158, 134, 113, 100, 100] ∧
  ∀ (p : Params) (r : Nat), p.wf = true → p.rampFloor ≤ r →
    p.rampFloor ≤ decay p r ∧ decay p r ≤ r ∧ (p.rampFloor < r * p.rampNum / p.rampDen →
      decay p r = r * p.rampNum / p.rampDen)

/-! ## The whole machine -/

/-- The invariant of the whole machine holds at reset (the parameters at reset are the model's choice, log entry 5). -/
def Obligations.GoodAtReset : Prop := Good State.reset

/-- Every step keeps the invariant: the decoder state is never transient and its accumulator holds only its bits, the
direction flags exclude each other, the button channel and its enables agree, the counter stays at or below `CNT_MAX`,
the digit run stays within `RUN_MAX` digits with its timer armed, the ramp stays within its bounds, and no readable timestamp is
in the future. The bounds 31, 13 and 3 that the rules write are read from the parameters `NEC_BITS`, `RC5_BITS`, `CNT_MAX` and
`RUN_MAX`, the model's choice (log entry 8). -/
def Obligations.StepKeepsGood : Prop :=
  ∀ s t : State, Good s → step s = .next t → Good t

/-- `HSNAP` completes on every snapshot, in every state of a host that is up and whose clock has not run backwards; it
changes no producer state. -/
def Obligations.EverySnapshotIsClassified : Prop :=
  ∀ (s : State) (now : Time) (snap : BitVec 64), HostUp s → ClockOk now s →
    ∃ c acts, HostEffect (.hsnap now snap) now s c acts ∧ acts.length ≤ 2

/-- No host-port event changes any producer state, no producer-port event changes any host state, and `READ` changes no
register byte but only `BUS_IDLE`. -/
def Obligations.AgentsDoNotWriteEachOther : Prop :=
  ∀ (i : Instr) (s t : State), exec i s = .next t →
    (i.onHostPort = true → t.prod = s.prod) ∧
    (i.onHostPort = false → t.cls = s.cls ∧ t.hostClock = s.hostClock) ∧
    (i = .read → t.prod = { s.prod with busIdle := false } ∧ regImage t.prod = regImage s.prod)

/-- What a producer-port event does to the producer, and its outputs, does not depend on the host's state; what a host-port
event does to the host, and its outputs, does not depend on the producer's. -/
def Obligations.AgentsDoNotReadEachOther : Prop :=
  ∀ (i : Instr) (s : State) (p : Producer) (c : Classifier) (k : Option Time),
    (i.onHostPort = false → ∃ q o, exec i s = .next { s with prod := q, outp := o } ∧
      exec i { s with cls := c, hostClock := k } = .next { s with prod := q, outp := o, cls := c, hostClock := k }) ∧
    (i.onHostPort = true → ∀ t, exec i s = .next t → exec i { s with prod := p } = .next { t with prod := p })

/-- The parameters never change while the block runs. That no event takes a word of the list `pending` is a property of the
model's own list (its choice, log entry 1). -/
def Obligations.ConfigurationIsImmutable : Prop :=
  ∀ (i : Instr) (s t : State), exec i s = .next t → t.params = s.params ∧ t.pending = s.pending

/-- The counter never wraps: every emission and every held tick applies the one law `if CNT < CNT_MAX then CNT <- CNT + 1`
(`CNT_MAX` is 31 by default); `IRTO`, the release tick and `PRST` leave it or clear it to 0 (that these three clear it is the
spec's own decision D15); every other event leaves it, and at `CNT_MAX` no event but those three moves it. The 31 of 00_scope.md R14
is read as the parameter `CNT_MAX` at every value of it, the model's choice (log entry 8). -/
def Obligations.CounterNeverWraps : Prop :=
  ∀ (i : Instr) (s t : State), exec i s = .next t →
    (((∃ w, i.event = .pulse w) ∧ t.outp.notify = true) ∨ (i = .btnt true ∧ s.prod.btnRun = true) →
      t.prod.cnt = if s.prod.cnt.toNat < s.params.cntMax.toNat then s.prod.cnt + 1 else s.prod.cnt) ∧
    (i = .irto ∨ i = .btnt false ∨ i = .prst → t.prod.cnt = s.prod.cnt ∨ t.prod.cnt = 0) ∧
    (i ≠ .irto → i ≠ .btnt false → i ≠ .prst →
      (t.prod.cnt = s.prod.cnt ∨
        (s.prod.cnt.toNat < s.params.cntMax.toNat ∧ t.prod.cnt.toNat = s.prod.cnt.toNat + 1 ∧ t.outp.notify = true)) ∧
      (s.prod.cnt = s.params.cntMax → t.prod.cnt = s.params.cntMax))

/-- `wake` is raised only when the counter was already at `CNT_MAX` and no `READ` had happened since the last notification, only
together with `notify`, and only by a pulse or a held tick (decision D14). The 31 of the port rules is read as the parameter `CNT_MAX`,
the model's choice (log entry 8). -/
def Obligations.WakeOnlySaturatedAndUnread : Prop :=
  ∀ (i : Instr) (s t : State), exec i s = .next t → t.outp.wake = true →
    s.prod.cnt = s.params.cntMax ∧ s.prod.busIdle = true ∧ t.outp.notify = true ∧ ((∃ w, i.event = .pulse w) ∨ i = .btnt true)

/-- `BUS_IDLE` is set by every event that raises `notify`, set by `PRST`, cleared by `READ`, and left by every other
(decision D14). -/
def Obligations.BusIdleFollowsNotifyAndRead : Prop :=
  ∀ (i : Instr) (s t : State), exec i s = .next t →
    t.prod.busIdle =
      if t.outp.notify = true ∨ i = .prst then true
      else if i = .read then false
      else s.prod.busIdle

/-- The register bytes change only with a notification, but for `CONSUME` and `PRST` (decision D16). -/
def Obligations.RegisterChangesAreNotified : Prop :=
  ∀ (i : Instr) (s t : State), exec i s = .next t → i ≠ .consume → i ≠ .prst →
    t.outp.notify = false → regImage t.prod = regImage s.prod

/-- Who writes what: `SCAN` changes only by a pulse that completes a collection, by `IRTO` and by `PRST`; `BTN` only by `BTNE`,
the release tick and `PRST`; `DSTATE`, `ACC` and `IDX` only by a pulse, `IRTO` and `PRST`; and `ACTIVE` is cleared only by the
three releases, `CONSUME` and `PRST`. The spec's own decisions (log entry 20): what a button edge and the release tick write (D20), that
`ROTTO` and `CONSUME` clear `ACTIVE` (D19, D21), and the reset values of `PRST` (D24). Its rule writes the two channels as 0xFFFFFF and
0; that they are the parameters `SCAN_SENTINEL` and `BTN_SENTINEL` at every value of them is the model's choice (log entry 8). -/
def Obligations.OnlyNamedEventsWrite : Prop :=
  ∀ (i : Instr) (s t : State), exec i s = .next t →
    (t.prod.scan ≠ s.prod.scan →
      ((∃ w, i.event = .pulse w) ∧ s.prod.dstate ≠ .idle ∧ t.outp.notify = true) ∨
      (i = .irto ∧ t.prod.scan = s.params.scanSentinel) ∨ (i = .prst ∧ t.prod.scan = s.params.scanSentinel)) ∧
    (t.prod.btn ≠ s.prod.btn →
      (∃ id, i = .btne id ∧ t.prod.btn = id ||| 1) ∨ (i = .btnt false ∧ t.prod.btn = s.params.btnSentinel) ∨
      (i = .prst ∧ t.prod.btn = s.params.btnSentinel)) ∧
    (t.prod.dstate ≠ s.prod.dstate ∨ t.prod.acc ≠ s.prod.acc ∨ t.prod.idx ≠ s.prod.idx →
      (∃ w, i.event = .pulse w) ∨ i = .irto ∨ i = .prst) ∧
    (s.prod.active = true → t.prod.active = false →
      i = .irto ∨ i = .rotto ∨ i = .btnt false ∨ i = .consume ∨ i = .prst)

/-- Nothing reads a timestamp before it is written: two states that differ only in `T_RELEASE`, in `T_PRESS` with no key
down, in `T_FIRE` with no `Repeat` key down and in `T_LASTREL` with no run open answer every event alike, up to such
timestamps. So the values the model gives them at reset (log entry 9) are never seen. -/
def Obligations.UnwrittenTimestampsAreNeverRead : Prop :=
  ∀ (i : Instr) (s t : State), SameReadable s t → SameResult (exec i s) (exec i t)

end
end

