-- ==== Sys2Proof/Laws/Encoding.lean ====
section
/-! SUPPORT. The fields of the two word formats: what each field of a word built from its parts is, and that a word is the
join of its fields. -/

namespace Sys2Proof

/-- The high part of a join. -/
theorem extract_append_high {m n : Nat} (a : BitVec m) (b : BitVec n) : (a ++ b).extractLsb' n m = a := by
  ext j hj
  simp [BitVec.getLsbD_append, BitVec.getLsbD_eq_getElem hj]

/-- The low part of a join. -/
theorem extract_append_low {m n : Nat} (a : BitVec m) (b : BitVec n) : (a ++ b).extractLsb' 0 n = b := by
  ext j hj
  simp [BitVec.getLsbD_append, hj]

/-- A field that lies above the low part of a join is a field of the high part. -/
theorem extract_append_above {m n : Nat} (a : BitVec m) (b : BitVec n) (start len : Nat) :
    (a ++ b).extractLsb' (n + start) len = a.extractLsb' start len := by
  ext j hj
  simp [BitVec.getLsbD_append, show ¬ n + start + j < n by omega, show n + start + j - n = start + j by omega]

/-- A word is the join of its high and its low part. -/
theorem append_extract {m n : Nat} (b : BitVec (m + n)) : b.extractLsb' n m ++ b.extractLsb' 0 n = b := by
  ext j hj
  simp

/-- A field is the join of its high and its low part. -/
theorem extract_split {w : Nat} (b : BitVec w) (start m n : Nat) :
    b.extractLsb' (start + n) m ++ b.extractLsb' start n = b.extractLsb' start (m + n) := by
  ext j hj
  simp only [BitVec.getElem_append, BitVec.getElem_extractLsb']
  split
  · rfl
  · rw [show start + n + (j - n) = start + j by omega]

@[simp] theorem pOp_word (op : BitVec 8) (arg : BitVec 32) : pOp (op ++ arg) = op := extract_append_high op arg

@[simp] theorem pArg_word (op : BitVec 8) (arg : BitVec 32) : pArg (op ++ arg) = arg := extract_append_low op arg

@[simp] theorem hOp_word (op : BitVec 8) (now snap : BitVec 64) : hOp (op ++ now ++ snap) = op :=
  (extract_append_above (op ++ now) snap 64 8).trans (extract_append_high op now)

@[simp] theorem hNow_word (op : BitVec 8) (now snap : BitVec 64) : hNow (op ++ now ++ snap) = now :=
  (extract_append_above (op ++ now) snap 0 64).trans (extract_append_low op now)

@[simp] theorem hSnap_word (op : BitVec 8) (now snap : BitVec 64) : hSnap (op ++ now ++ snap) = snap :=
  extract_append_low (op ++ now) snap

/-- A P-format word is `op ++ arg`. -/
theorem wordP_fields (b : BitVec 40) : pOp b ++ pArg b = b := append_extract (m := 8) (n := 32) b

/-- An H-format word is `op ++ now ++ snap`. -/
theorem wordH_fields (b : BitVec 136) : hOp b ++ hNow b ++ hSnap b = b :=
  (congrArg (· ++ hSnap b) (extract_split b 64 8 64)).trans (append_extract (m := 72) (n := 64) b)

end Sys2Proof
end

