-- ==== Sys2Proof/Laws/State.lean ====
section
/-! SUPPORT. One lemma per field per update of State, all true by definition. -/

namespace Sys2Proof.Machine

@[simp] theorem State.setProd_prod (s : State) (p : Producer) : (s.setProd p).prod = p := rfl
@[simp] theorem State.setProd_cls (s : State) (p : Producer) : (s.setProd p).cls = s.cls := rfl
@[simp] theorem State.setProd_params (s : State) (p : Producer) : (s.setProd p).params = s.params := rfl
@[simp] theorem State.setProd_outp (s : State) (p : Producer) : (s.setProd p).outp = s.outp := rfl
@[simp] theorem State.setProd_hostClock (s : State) (p : Producer) : (s.setProd p).hostClock = s.hostClock := rfl
@[simp] theorem State.setProd_pending (s : State) (p : Producer) : (s.setProd p).pending = s.pending := rfl

@[simp] theorem State.setCls_prod (s : State) (c : Classifier) : (s.setCls c).prod = s.prod := rfl
@[simp] theorem State.setCls_cls (s : State) (c : Classifier) : (s.setCls c).cls = c := rfl
@[simp] theorem State.setCls_params (s : State) (c : Classifier) : (s.setCls c).params = s.params := rfl
@[simp] theorem State.setCls_outp (s : State) (c : Classifier) : (s.setCls c).outp = s.outp := rfl
@[simp] theorem State.setCls_hostClock (s : State) (c : Classifier) : (s.setCls c).hostClock = s.hostClock := rfl
@[simp] theorem State.setCls_pending (s : State) (c : Classifier) : (s.setCls c).pending = s.pending := rfl

@[simp] theorem State.setOutp_prod (s : State) (o : Outputs) : (s.setOutp o).prod = s.prod := rfl
@[simp] theorem State.setOutp_cls (s : State) (o : Outputs) : (s.setOutp o).cls = s.cls := rfl
@[simp] theorem State.setOutp_params (s : State) (o : Outputs) : (s.setOutp o).params = s.params := rfl
@[simp] theorem State.setOutp_outp (s : State) (o : Outputs) : (s.setOutp o).outp = o := rfl
@[simp] theorem State.setOutp_hostClock (s : State) (o : Outputs) : (s.setOutp o).hostClock = s.hostClock := rfl
@[simp] theorem State.setOutp_pending (s : State) (o : Outputs) : (s.setOutp o).pending = s.pending := rfl

@[simp] theorem State.setClock_prod (s : State) (k : Option Time) : (s.setClock k).prod = s.prod := rfl
@[simp] theorem State.setClock_cls (s : State) (k : Option Time) : (s.setClock k).cls = s.cls := rfl
@[simp] theorem State.setClock_params (s : State) (k : Option Time) : (s.setClock k).params = s.params := rfl
@[simp] theorem State.setClock_outp (s : State) (k : Option Time) : (s.setClock k).outp = s.outp := rfl
@[simp] theorem State.setClock_hostClock (s : State) (k : Option Time) : (s.setClock k).hostClock = k := rfl
@[simp] theorem State.setClock_pending (s : State) (k : Option Time) : (s.setClock k).pending = s.pending := rfl

@[simp] theorem State.setPending_prod (s : State) (ws : List EventWord) : (s.setPending ws).prod = s.prod := rfl
@[simp] theorem State.setPending_cls (s : State) (ws : List EventWord) : (s.setPending ws).cls = s.cls := rfl
@[simp] theorem State.setPending_params (s : State) (ws : List EventWord) : (s.setPending ws).params = s.params := rfl
@[simp] theorem State.setPending_outp (s : State) (ws : List EventWord) : (s.setPending ws).outp = s.outp := rfl
@[simp] theorem State.setPending_hostClock (s : State) (ws : List EventWord) : (s.setPending ws).hostClock = s.hostClock := rfl
@[simp] theorem State.setPending_pending (s : State) (ws : List EventWord) : (s.setPending ws).pending = ws := rfl

@[simp] theorem State.begin_prod (s : State) : (s.begin).prod = s.prod := rfl
@[simp] theorem State.begin_cls (s : State) : (s.begin).cls = s.cls := rfl
@[simp] theorem State.begin_params (s : State) : (s.begin).params = s.params := rfl
@[simp] theorem State.begin_outp (s : State) : (s.begin).outp = {} := rfl
@[simp] theorem State.begin_hostClock (s : State) : (s.begin).hostClock = s.hostClock := rfl
@[simp] theorem State.begin_pending (s : State) : (s.begin).pending = s.pending := rfl

@[simp] theorem State.notify_prod (s : State) : (s.notify).prod = s.prod := rfl
@[simp] theorem State.notify_cls (s : State) : (s.notify).cls = s.cls := rfl
@[simp] theorem State.notify_params (s : State) : (s.notify).params = s.params := rfl
@[simp] theorem State.notify_outp (s : State) : (s.notify).outp = { s.outp with notify := true } := rfl
@[simp] theorem State.notify_hostClock (s : State) : (s.notify).hostClock = s.hostClock := rfl
@[simp] theorem State.notify_pending (s : State) : (s.notify).pending = s.pending := rfl

@[simp] theorem State.act_prod (s : State) (a : Action) : (s.act a).prod = s.prod := rfl
@[simp] theorem State.act_cls (s : State) (a : Action) : (s.act a).cls = s.cls := rfl
@[simp] theorem State.act_params (s : State) (a : Action) : (s.act a).params = s.params := rfl
@[simp] theorem State.act_outp (s : State) (a : Action) : (s.act a).outp = { s.outp with out := s.outp.out ++ [a] } := rfl
@[simp] theorem State.act_hostClock (s : State) (a : Action) : (s.act a).hostClock = s.hostClock := rfl
@[simp] theorem State.act_pending (s : State) (a : Action) : (s.act a).pending = s.pending := rfl

@[simp] theorem State.raise_prod (s : State) (o : EventOutcome) : (s.raise o).prod = s.prod := rfl
@[simp] theorem State.raise_cls (s : State) (o : EventOutcome) : (s.raise o).cls = s.cls := rfl
@[simp] theorem State.raise_params (s : State) (o : EventOutcome) : (s.raise o).params = s.params := rfl
@[simp] theorem State.raise_outp (s : State) (o : EventOutcome) : (s.raise o).outp = { s.outp with outcome := o } := rfl
@[simp] theorem State.raise_hostClock (s : State) (o : EventOutcome) : (s.raise o).hostClock = s.hostClock := rfl
@[simp] theorem State.raise_pending (s : State) (o : EventOutcome) : (s.raise o).pending = s.pending := rfl

end Sys2Proof.Machine
end

