-- ==== Sys2Proof/Laws/Ops.lean ====
section
/-! SUPPORT. What each shared operation does, said once. -/

namespace Sys2Proof.Machine

/-! ## Flags and the window -/

/-- The counter law: one more below the maximum, the same from it on. -/
theorem satInc_cases (m c : BitVec 5) :
    (c.toNat < m.toNat ∧ (satInc m c).toNat = c.toNat + 1) ∨ (m.toNat ≤ c.toNat ∧ satInc m c = c) := by
  have h := m.isLt
  by_cases hc : c.toNat < m.toNat
  · refine .inl ⟨hc, ?_⟩
    rw [satInc, if_pos hc, BitVec.toNat_add]
    simp; omega
  · exact .inr ⟨by omega, by rw [satInc, if_neg hc]⟩

/-- The counter law never goes above a maximum it starts at or below. -/
theorem satInc_le_max {m c : BitVec 5} (h : c.toNat ≤ m.toNat) : (satInc m c).toNat ≤ m.toNat := by
  rcases satInc_cases m c with ⟨h1, h2⟩ | ⟨_, h2⟩
  · omega
  · rw [h2]; exact h

/-- The counter law never goes down. -/
theorem le_satInc (m c : BitVec 5) : c.toNat ≤ (satInc m c).toNat := by
  rcases satInc_cases m c with ⟨h1, h2⟩ | ⟨_, h2⟩
  · omega
  · rw [h2]

/-- The wake condition: the counter at its maximum and the bus idle. -/
theorem wakeCondition_iff (m : BitVec 5) (p : Producer) : wakeCondition m p = true ↔ p.cnt = m ∧ p.busIdle = true := by
  rw [wakeCondition, Bool.and_eq_true, decide_eq_true_eq]

/-- The window is canonical: the offsets 0 to 7 in order. -/
theorem windowCells_wf (p : Producer) : windowWf (windowCells p) := by
  simp [windowWf, windowCells, regImage, List.range, List.range.loop]

/-- The window has eight bytes. -/
@[simp] theorem regImage_length (p : Producer) : (regImage p).length = 8 := rfl

/-- No offset above 7 exists. -/
theorem readByte_none (p : Producer) (off : Nat) (h : 8 ≤ off) : readByte p off = none := by
  simp [readByte, h]

/-- The one legal register read. -/
@[simp] theorem memRead_whole (p : Producer) : memRead p 0 8 = some (regImage p) := rfl

/-- Every other register read has no meaning. -/
theorem memRead_other (p : Producer) (addr n : Nat) (h : ¬ (addr = 0 ∧ n = 8)) : memRead p addr n = none := by
  simp [memRead, h]

/-- The image depends on the six visible elements only. -/
theorem regImage_congr {p q : Producer} (h1 : p.cnt = q.cnt) (h2 : p.dirA = q.dirA) (h3 : p.dirB = q.dirB)
    (h4 : p.active = q.active) (h5 : p.scan = q.scan) (h6 : p.btn = q.btn) : regImage p = regImage q := by
  simp [regImage, statusByte, h1, h2, h3, h4, h5, h6]

/-! ## The decoder's procedures -/

/-- `ABORT` changes `DSTATE`, `ACC`, `IDX` and the label, nothing else. -/
theorem abort_eq (s : State) :
    abort s = { s with
      prod := { s.prod with dstate := .idle, acc := 0, idx := 0 }
      outp := { s.outp with outcome := .noiseAbort } } := rfl

/-- The start of a `PULSE`. -/
theorem pulseBegin_eq (s : State) :
    pulseBegin s = { s with prod := { s.prod with irArmed := true }, outp := {} } := rfl

/-- `BUMP` changes `CNT` and `wake`, nothing else. -/
theorem bump_eq (s : State) :
    bump s = { s with
      prod := { s.prod with cnt := satInc s.params.cntMax s.prod.cnt }
      outp := { s.outp with wake := s.outp.wake || wakeCondition s.params.cntMax s.prod } } := rfl

/-- Everything `EMIT` does. -/
theorem emit_eq (c : Option (BitVec 24)) (s : State) :
    emit c s = { s with
      prod := { s.prod with
        scan := c.getD s.prod.scan
        cnt := satInc s.params.cntMax s.prod.cnt
        active := true, busIdle := true, dstate := .idle, acc := 0, idx := 0 }
      outp := { s.outp with notify := true, wake := s.outp.wake || wakeCondition s.params.cntMax s.prod } } := by
  cases c <;> rfl

/-- `ACC[i] <- b` sets bit `i` and leaves the others. -/
theorem placeBit_getLsbD (acc : BitVec 32) (i : Nat) (b : Bool) (j : Nat) (hj : j < 32) :
    (placeBit acc i b).getLsbD j = if j = i then b else acc.getLsbD j := by
  by_cases h : j = i
  · subst h
    cases b <;> simp [placeBit, hj]
  · by_cases h2 : j < i
    · cases b <;> simp [placeBit, hj, h, h2]
    · have h3 : ¬ j - i = 0 := by omega
      cases b <;> simp [placeBit, hj, h, h3]

/-- A count below a bound that the 6-bit `IDX` holds goes up by one. -/
theorem idx_succ {i : BitVec 6} {n : Nat} (h : i.toNat < n) (hn : n ≤ 63) : (i + 1).toNat = i.toNat + 1 := by
  rw [BitVec.toNat_add]
  simp; omega

/-- An NEC bit before the last. -/
theorem necBit_more (b : Bool) (s : State) (h : (s.prod.idx + 1).toNat ≠ s.params.necBits) :
    necBit b s = necPlace b s := if_neg h

/-- The last NEC bit. -/
theorem necBit_done (b : Bool) (s : State) (h : (s.prod.idx + 1).toNat = s.params.necBits) :
    necBit b s = necComplete (necPlace b s) := if_pos h

/-- A SIRC bit before the last. -/
theorem sircBit_more (b : Bool) (s : State) (h : (s.prod.idx + 1).toNat ≠ s.params.sircBits) :
    sircBit b s = sircPlace b s := if_neg h

/-- The last SIRC bit. -/
theorem sircBit_done (b : Bool) (s : State) (h : (s.prod.idx + 1).toNat = s.params.sircBits) :
    sircBit b s = emit (some (((sircPlace b s).prod.acc.extractLsb' 0 20).setWidth 24)) (sircPlace b s) := if_pos h

/-- `RC5ACC` before the last bit. -/
theorem rc5Acc_more (b : Bool) (rest : State → State) (s : State) (h : (s.prod.idx + 1).toNat ≠ s.params.rc5Bits) :
    rc5Acc b rest s = rest (rc5Shift b s) := if_neg h

/-- `RC5ACC` at the last bit: the frame is emitted and the rest of the row is dropped. -/
theorem rc5Acc_done (b : Bool) (rest : State → State) (s : State) (h : (s.prod.idx + 1).toNat = s.params.rc5Bits) :
    rc5Acc b rest s = emit (some (((shiftBit s.prod.acc b).extractLsb' 0 13).setWidth 24)) (rc5Shift b s) := if_pos h

/-- What any row of the table leaves alone: the host, the parameters, the pending words, the bytes of the latch, its timers, and
the supervisor's arming (40_lead_classifier.md R110, R119). -/
structure RowFrame (s t : State) : Prop where
  cls : t.cls = s.cls
  params : t.params = s.params
  hostClock : t.hostClock = s.hostClock
  pending : t.pending = s.pending
  dirA : t.prod.dirA = s.prod.dirA
  dirB : t.prod.dirB = s.prod.dirB
  btn : t.prod.btn = s.prod.btn
  irArmed : t.prod.irArmed = s.prod.irArmed
  rotArmed : t.prod.rotArmed = s.prod.rotArmed
  btnIrqEn : t.prod.btnIrqEn = s.prod.btnIrqEn
  btnRun : t.prod.btnRun = s.prod.btnRun

theorem RowFrame.refl (s : State) : RowFrame s s := ⟨rfl, rfl, rfl, rfl, rfl, rfl, rfl, rfl, rfl, rfl, rfl⟩

theorem RowFrame.trans {s t u : State} (h : RowFrame s t) (k : RowFrame t u) : RowFrame s u :=
  ⟨k.cls.trans h.cls, k.params.trans h.params, k.hostClock.trans h.hostClock, k.pending.trans h.pending,
   k.dirA.trans h.dirA, k.dirB.trans h.dirB, k.btn.trans h.btn, k.irArmed.trans h.irArmed,
   k.rotArmed.trans h.rotArmed, k.btnIrqEn.trans h.btnIrqEn, k.btnRun.trans h.btnRun⟩

theorem abort_frame (s : State) : RowFrame s (abort s) := ⟨rfl, rfl, rfl, rfl, rfl, rfl, rfl, rfl, rfl, rfl, rfl⟩

theorem emit_frame (c : Option (BitVec 24)) (s : State) : RowFrame s (emit c s) := by
  rw [emit_eq]; exact ⟨rfl, rfl, rfl, rfl, rfl, rfl, rfl, rfl, rfl, rfl, rfl⟩

theorem rc5Shift_frame (b : Bool) (s : State) : RowFrame s (rc5Shift b s) :=
  ⟨rfl, rfl, rfl, rfl, rfl, rfl, rfl, rfl, rfl, rfl, rfl⟩

theorem goto_frame (d : DState) (s : State) : RowFrame s (goto d s) :=
  ⟨rfl, rfl, rfl, rfl, rfl, rfl, rfl, rfl, rfl, rfl, rfl⟩

theorem rc5Acc_frame (b : Bool) (rest : State → State) (h : ∀ s, RowFrame s (rest s)) (s : State) :
    RowFrame s (rc5Acc b rest s) := by
  rw [rc5Acc]; split
  · exact (rc5Shift_frame b s).trans (emit_frame _ _)
  · exact (rc5Shift_frame b s).trans (h _)

theorem necBit_frame (b : Bool) (s : State) : RowFrame s (necBit b s) := by
  have place : RowFrame s (necPlace b s) := ⟨rfl, rfl, rfl, rfl, rfl, rfl, rfl, rfl, rfl, rfl, rfl⟩
  rw [necBit]; split
  · refine place.trans ?_
    rw [necComplete]; split
    · exact RowFrame.trans (t := (necPlace b s).raise .checksumFail)
        ⟨rfl, rfl, rfl, rfl, rfl, rfl, rfl, rfl, rfl, rfl, rfl⟩ (emit_frame _ _)
    · exact emit_frame _ _
  · exact place

theorem sircBit_frame (b : Bool) (s : State) : RowFrame s (sircBit b s) := by
  have place : RowFrame s (sircPlace b s) := ⟨rfl, rfl, rfl, rfl, rfl, rfl, rfl, rfl, rfl, rfl, rfl⟩
  rw [sircBit]; split
  · exact place.trans (emit_frame _ _)
  · exact place

/-- Every row of the transition table keeps the frame. -/
theorem rowAction_frame (r : PulseRow) (s : State) : RowFrame s (rowAction r s) := by
  cases r
  case idleLNecr => exact emit_frame none s
  case idleLNoise => exact abort_frame s
  case necCollectN0 => exact necBit_frame false s
  case necCollectN1 => exact necBit_frame true s
  case necCollectOut => exact abort_frame s
  case sircCollectS0 => exact sircBit_frame false s
  case sircCollectS1 => exact sircBit_frame true s
  case sircCollectOut => exact abort_frame s
  case rc5Mid1T1 => exact rc5Acc_frame _ _ (goto_frame _) s
  case rc5Mid1T15 => exact rc5Acc_frame _ _ (goto_frame _) s
  case rc5Mid1T2 => exact rc5Acc_frame _ _ (rc5Acc_frame _ _ (goto_frame _)) s
  case rc5Start0T1 => exact rc5Acc_frame _ _ (goto_frame _) s
  case rc5Start0T15 => exact rc5Acc_frame _ _ (rc5Acc_frame _ _ (goto_frame _)) s
  case rc5Start0T2 => exact abort_frame s
  case rc5Out => exact abort_frame s
  case transientAny => exact abort_frame s
  all_goals exact ⟨rfl, rfl, rfl, rfl, rfl, rfl, rfl, rfl, rfl, rfl, rfl⟩

/-- What a row does to the register and the outputs: either it performs `EMIT` (the counter bumped, `ACTIVE` and `notify` set, the decoder
idle), or it leaves every register element and raises neither pulse. -/
def RowOutcome (s t : State) : Prop :=
  (t.outp.notify = true ∧ t.outp.wake = (s.outp.wake || wakeCondition s.params.cntMax s.prod) ∧ t.prod.active = true ∧
    t.prod.cnt = satInc s.params.cntMax s.prod.cnt ∧ t.prod.busIdle = true ∧ t.prod.dstate = .idle ∧ t.prod.acc = 0 ∧
    t.prod.idx = 0 ∧ t.outp.out = s.outp.out ∧ t.outp.ret = s.outp.ret) ∨
  (t.outp.notify = s.outp.notify ∧ t.outp.wake = s.outp.wake ∧ t.prod.active = s.prod.active ∧
    t.prod.cnt = s.prod.cnt ∧ t.prod.busIdle = s.prod.busIdle ∧ t.prod.scan = s.prod.scan ∧
    t.outp.out = s.outp.out ∧ t.outp.ret = s.outp.ret)

theorem emit_outcome (c : Option (BitVec 24)) (s : State) : RowOutcome s (emit c s) := by
  rw [emit_eq]; exact .inl ⟨rfl, rfl, rfl, rfl, rfl, rfl, rfl, rfl, rfl, rfl⟩

theorem abort_outcome (s : State) : RowOutcome s (abort s) := .inr ⟨rfl, rfl, rfl, rfl, rfl, rfl, rfl, rfl⟩

theorem rc5Acc_outcome (b : Bool) (rest : State → State) (h : ∀ s, RowOutcome s (rest s)) (s : State) :
    RowOutcome s (rc5Acc b rest s) := by
  rw [rc5Acc]; split
  · exact emit_outcome _ (rc5Shift b s)
  · exact h (rc5Shift b s)

theorem goto_outcome (d : DState) (s : State) : RowOutcome s (goto d s) :=
  .inr ⟨rfl, rfl, rfl, rfl, rfl, rfl, rfl, rfl⟩

theorem necBit_outcome (b : Bool) (s : State) : RowOutcome s (necBit b s) := by
  rw [necBit]; split
  · rw [necComplete]; split
    · exact emit_outcome _ ((necPlace b s).raise .checksumFail)
    · exact emit_outcome _ (necPlace b s)
  · exact .inr ⟨rfl, rfl, rfl, rfl, rfl, rfl, rfl, rfl⟩

theorem sircBit_outcome (b : Bool) (s : State) : RowOutcome s (sircBit b s) := by
  rw [sircBit]; split
  · exact emit_outcome _ (sircPlace b s)
  · exact .inr ⟨rfl, rfl, rfl, rfl, rfl, rfl, rfl, rfl⟩

/-- Every row either emits or leaves the register. -/
theorem rowAction_outcome (r : PulseRow) (s : State) : RowOutcome s (rowAction r s) := by
  cases r
  case idleLNecr => exact emit_outcome none s
  case idleLNoise => exact abort_outcome s
  case necCollectN0 => exact necBit_outcome false s
  case necCollectN1 => exact necBit_outcome true s
  case necCollectOut => exact abort_outcome s
  case sircCollectS0 => exact sircBit_outcome false s
  case sircCollectS1 => exact sircBit_outcome true s
  case sircCollectOut => exact abort_outcome s
  case rc5Mid1T1 => exact rc5Acc_outcome _ _ (goto_outcome _) s
  case rc5Mid1T15 => exact rc5Acc_outcome _ _ (goto_outcome _) s
  case rc5Mid1T2 => exact rc5Acc_outcome _ _ (rc5Acc_outcome _ _ (goto_outcome _)) s
  case rc5Start0T1 => exact rc5Acc_outcome _ _ (goto_outcome _) s
  case rc5Start0T15 => exact rc5Acc_outcome _ _ (rc5Acc_outcome _ _ (goto_outcome _)) s
  case rc5Start0T2 => exact abort_outcome s
  case rc5Out => exact abort_outcome s
  case transientAny => exact abort_outcome s
  all_goals exact .inr ⟨rfl, rfl, rfl, rfl, rfl, rfl, rfl, rfl⟩

/-! ## Host events -/

/-- The host side exists exactly with a table of at most `TABLE_MAX` entries and a timer. -/
theorem hostFatal_none_iff (p : Params) :
    hostFatal p = none ↔ (∃ tb, p.table = some tb ∧ tb.length ≤ p.tableMax) ∧ p.timerOk = true := by
  rw [hostFatal]
  cases h : p.table with
  | none => simp
  | some tb =>
    by_cases h1 : p.tableMax < tb.length
    · simp [h1]
    · have h2 : tb.length ≤ p.tableMax := by omega
      cases h3 : p.timerOk <;> simp [h1, h2]

/-- The clock has not run backwards. -/
theorem clockBack_eq_false_iff (last : Option Time) (now : Time) :
    clockBack last now = false ↔ ∀ t, last = some t → t.toNat ≤ now.toNat := by
  cases last with
  | none => simp [clockBack]
  | some t => simp [clockBack]

/-- A host event runs when the host side exists. -/
theorem onHost_up {s : State} {k : State → Result} (h : hostFatal s.params = none) : onHost s k = k s.begin := by
  simp [onHost, h]

/-- A host event at `now` runs when the host side exists and the clock has not run backwards. -/
theorem atTime_up {now : Time} {s : State} {k : State → Result} (h : hostFatal s.params = none)
    (hc : clockBack s.hostClock now = false) : atTime now s k = k (s.begin.setClock (some now)) := by
  simp [atTime, onHost, h, hc]

/-- If a host event answers a next state, the host side exists and its body answered it. -/
theorem onHost_next {s t : State} {k : State → Result} (h : onHost s k = .next t) :
    hostFatal s.params = none ∧ k s.begin = .next t := by
  cases hf : hostFatal s.params with
  | none => simpa [onHost, hf] using h
  | some f => simp [onHost, hf] at h

/-- If a host event at `now` answers a next state, the host side exists, the clock has not run backwards, and its body
answered it. -/
theorem atTime_next {now : Time} {s t : State} {k : State → Result} (h : atTime now s k = .next t) :
    hostFatal s.params = none ∧ clockBack s.hostClock now = false ∧ k (s.begin.setClock (some now)) = .next t := by
  obtain ⟨hf, h⟩ := onHost_next h
  refine ⟨hf, ?_⟩
  cases hc : clockBack s.hostClock now with
  | true => simp [hc] at h
  | false => simpa [hc] using h

/-- One decay step never goes below the floor. -/
theorem decay_ge_floor (p : Params) (r : Nat) : p.rampFloor ≤ decay p r := Nat.le_max_left _ _

/-- One decay step never rises above a value at or above the floor. -/
theorem decay_le (p : Params) (r : Nat) (hn : p.rampNum ≤ p.rampDen) (hf : p.rampFloor ≤ r) : decay p r ≤ r := by
  refine Nat.max_le.mpr ⟨hf, ?_⟩
  have h : r * p.rampNum ≤ r * p.rampDen := Nat.mul_le_mul_left _ hn
  rcases Nat.eq_zero_or_pos p.rampDen with h0 | h0
  · simp [h0]
  · exact Nat.div_le_of_le_mul (by rw [Nat.mul_comm p.rampDen]; exact h)

/-! ## Class policies -/

/-- A held `Repeat` key whose delay has elapsed fires and its delay shrinks. -/
theorem sustainRepeat_due (now : Time) (cmd : String) (s : State) (h : s.cls.ramp ≤ elapsed now s.cls.tFire) :
    sustainRepeat now cmd s =
      (s.act (.cmd cmd)).setCls { s.cls with tFire := now, ramp := decay s.params s.cls.ramp } := if_pos h

/-- A held `Repeat` key whose delay has not elapsed does nothing. -/
theorem sustainRepeat_early (now : Time) (cmd : String) (s : State) (h : elapsed now s.cls.tFire < s.cls.ramp) :
    sustainRepeat now cmd s = s := if_neg (Nat.not_le.mpr h)

/-- A long hold of a `Power` key shuts down. -/
theorem releasePower_long (hold : Nat) (s : State) (h : s.params.holdMs ≤ hold) :
    releasePower hold s = s.act .shutdown := if_pos h

/-- A short hold of a `Power` key does nothing. -/
theorem releasePower_short (hold : Nat) (s : State) (h : hold < s.params.holdMs) :
    releasePower hold s = s := if_neg (Nat.not_le.mpr h)

/-- A long hold of a digit key. -/
theorem releaseDigit_long (now : Time) (d : Fin 10) (hold : Nat) (s : State) (h : s.params.holdMs ≤ hold) :
    releaseDigit now d hold s = digitLong d s := if_pos h

/-- A short hold of a digit key. -/
theorem releaseDigit_short (now : Time) (d : Fin 10) (hold : Nat) (s : State) (h : hold < s.params.holdMs) :
    releaseDigit now d hold s = digitShort now d s := if_neg (Nat.not_le.mpr h)

/-- When a short release appends. -/
theorem digitAppends_iff (now : Time) (s : State) :
    digitAppends now s = true ↔ 1 ≤ s.cls.run ∧ s.cls.run < s.params.runMax ∧ elapsed now s.cls.tLastRel < s.params.tapMs := by
  simp only [digitAppends, Bool.and_eq_true, decide_eq_true_eq, and_assoc]

/-- A short release that appends. -/
theorem digitShort_append (now : Time) (d : Fin 10) (s : State) (h : digitAppends now s = true) :
    digitShort now d s = s.setCls { s.cls with
      dacc := s.cls.dacc * 10 + d.val
      run := s.cls.run + 1
      tLastRel := now
      deadline := some (now.toNat + s.params.tapMs) } := by
  simp only [digitShort, h, if_true]

/-- A short release that restarts the run. -/
theorem digitShort_restart (now : Time) (d : Fin 10) (s : State) (h : digitAppends now s = false) :
    digitShort now d s = s.setCls { s.cls with
      dacc := d.val
      run := 1
      tLastRel := now
      deadline := some (now.toNat + s.params.tapMs) } := by
  simp only [digitShort, h, Bool.false_eq_true, if_false]

/-- What the classifier leaves alone: the producer, the parameters, the host clock, the pending words, and every output but
the actions. -/
structure HostFrame (s t : State) : Prop where
  prod : t.prod = s.prod
  params : t.params = s.params
  hostClock : t.hostClock = s.hostClock
  pending : t.pending = s.pending
  outp : { t.outp with out := [] } = { s.outp with out := [] }

theorem HostFrame.refl (s : State) : HostFrame s s := ⟨rfl, rfl, rfl, rfl, rfl⟩

theorem HostFrame.trans {s t u : State} (h : HostFrame s t) (k : HostFrame t u) : HostFrame s u :=
  ⟨k.prod.trans h.prod, k.params.trans h.params, k.hostClock.trans h.hostClock, k.pending.trans h.pending,
   k.outp.trans h.outp⟩

theorem press_frame (now : Time) (k : Keycode) (cmd : String) (s : State) : HostFrame s (press now k cmd s) := by
  rw [press]; split <;> exact ⟨rfl, rfl, rfl, rfl, rfl⟩

theorem sustain_frame (now : Time) (k : Keycode) (cmd : String) (s : State) : HostFrame s (sustain now k cmd s) := by
  rw [sustain]; split
  · rw [sustainRepeat]; split <;> exact ⟨rfl, rfl, rfl, rfl, rfl⟩
  all_goals exact HostFrame.refl s

theorem release_frame (now : Time) (j : Keycode) (s : State) : HostFrame s (release now j s) := by
  rw [release]; split
  · exact ⟨rfl, rfl, rfl, rfl, rfl⟩
  · rw [releasePower]; split <;> exact ⟨rfl, rfl, rfl, rfl, rfl⟩
  · rw [releaseDigit]; split
    · exact ⟨rfl, rfl, rfl, rfl, rfl⟩
    · rw [digitShort]; exact ⟨rfl, rfl, rfl, rfl, rfl⟩
  · exact ⟨rfl, rfl, rfl, rfl, rfl⟩

/-- Every case of `HSNAP` keeps the frame. -/
theorem classify_frame (now : Time) (cur : Option (Keycode × String)) (s : State) :
    HostFrame s (classify now cur s) := by
  unfold classify; split
  · exact HostFrame.refl s
  · exact press_frame _ _ _ _
  · split
    · exact sustain_frame _ _ _ _
    · exact (release_frame _ _ _).trans (press_frame _ _ _ _)
  · exact release_frame _ _ _

/-- An expiry of the timer keeps the frame. -/
theorem timerExpiry_frame (s : State) : HostFrame s (timerExpiry s) := by
  rw [timerExpiry]; split <;> exact ⟨rfl, rfl, rfl, rfl, rfl⟩

end Sys2Proof.Machine
end

