-- ==== Sys2Proof/Laws/PerInstr.lean ====
section
/-! SUPPORT. The per-instruction family `EventCanonical`: an instruction and the event it stands for have one word, and the event stands
for itself. -/

namespace Sys2Proof.Laws

open Sys2Proof

/-- The word of `i` is the word of its event, and its event is its own event. -/
def EventCanonical.Statement (i : Instr) : Prop := encode i.event = encode i ∧ i.event.event = i.event

theorem EventCanonical.pulse (w : Width) : EventCanonical.Statement (.pulse w) := ⟨rfl, rfl⟩
theorem EventCanonical.pulseIdleLRc5 (w : Width) : EventCanonical.Statement (.pulseIdleLRc5 w) := ⟨rfl, rfl⟩
theorem EventCanonical.pulseIdleLSirc (w : Width) : EventCanonical.Statement (.pulseIdleLSirc w) := ⟨rfl, rfl⟩
theorem EventCanonical.pulseIdleLNecr (w : Width) : EventCanonical.Statement (.pulseIdleLNecr w) := ⟨rfl, rfl⟩
theorem EventCanonical.pulseIdleLNec (w : Width) : EventCanonical.Statement (.pulseIdleLNec w) := ⟨rfl, rfl⟩
theorem EventCanonical.pulseIdleLNoise (w : Width) : EventCanonical.Statement (.pulseIdleLNoise w) := ⟨rfl, rfl⟩
theorem EventCanonical.pulseNecCollectN0 (w : Width) : EventCanonical.Statement (.pulseNecCollectN0 w) := ⟨rfl, rfl⟩
theorem EventCanonical.pulseNecCollectN1 (w : Width) : EventCanonical.Statement (.pulseNecCollectN1 w) := ⟨rfl, rfl⟩
theorem EventCanonical.pulseNecCollectOut (w : Width) : EventCanonical.Statement (.pulseNecCollectOut w) := ⟨rfl, rfl⟩
theorem EventCanonical.pulseSircCollectS0 (w : Width) : EventCanonical.Statement (.pulseSircCollectS0 w) := ⟨rfl, rfl⟩
theorem EventCanonical.pulseSircCollectS1 (w : Width) : EventCanonical.Statement (.pulseSircCollectS1 w) := ⟨rfl, rfl⟩
theorem EventCanonical.pulseSircCollectOut (w : Width) : EventCanonical.Statement (.pulseSircCollectOut w) := ⟨rfl, rfl⟩
theorem EventCanonical.pulseRc5Mid1T1 (w : Width) : EventCanonical.Statement (.pulseRc5Mid1T1 w) := ⟨rfl, rfl⟩
theorem EventCanonical.pulseRc5Mid1T15 (w : Width) : EventCanonical.Statement (.pulseRc5Mid1T15 w) := ⟨rfl, rfl⟩
theorem EventCanonical.pulseRc5Mid1T2 (w : Width) : EventCanonical.Statement (.pulseRc5Mid1T2 w) := ⟨rfl, rfl⟩
theorem EventCanonical.pulseRc5Start0T1 (w : Width) : EventCanonical.Statement (.pulseRc5Start0T1 w) := ⟨rfl, rfl⟩
theorem EventCanonical.pulseRc5Start0T15 (w : Width) : EventCanonical.Statement (.pulseRc5Start0T15 w) := ⟨rfl, rfl⟩
theorem EventCanonical.pulseRc5Start0T2 (w : Width) : EventCanonical.Statement (.pulseRc5Start0T2 w) := ⟨rfl, rfl⟩
theorem EventCanonical.pulseRc5Out (w : Width) : EventCanonical.Statement (.pulseRc5Out w) := ⟨rfl, rfl⟩
theorem EventCanonical.pulseTransientAny (w : Width) : EventCanonical.Statement (.pulseTransientAny w) := ⟨rfl, rfl⟩
theorem EventCanonical.irto : EventCanonical.Statement (.irto) := ⟨rfl, rfl⟩
theorem EventCanonical.rota : EventCanonical.Statement (.rota) := ⟨rfl, rfl⟩
theorem EventCanonical.rotb : EventCanonical.Statement (.rotb) := ⟨rfl, rfl⟩
theorem EventCanonical.rotto : EventCanonical.Statement (.rotto) := ⟨rfl, rfl⟩
theorem EventCanonical.btne (id : BitVec 32) : EventCanonical.Statement (.btne id) := ⟨rfl, rfl⟩
theorem EventCanonical.btnt (level : Bool) : EventCanonical.Statement (.btnt level) := ⟨rfl, rfl⟩
theorem EventCanonical.consume : EventCanonical.Statement (.consume) := ⟨rfl, rfl⟩
theorem EventCanonical.read : EventCanonical.Statement (.read) := ⟨rfl, rfl⟩
theorem EventCanonical.prst : EventCanonical.Statement (.prst) := ⟨rfl, rfl⟩
theorem EventCanonical.hsnap (now : Time) (snap : BitVec 64) : EventCanonical.Statement (.hsnap now snap) := ⟨rfl, rfl⟩
theorem EventCanonical.htmr (now : Time) : EventCanonical.Statement (.htmr now) := ⟨rfl, rfl⟩
theorem EventCanonical.hrst : EventCanonical.Statement (.hrst) := ⟨rfl, rfl⟩
theorem EventCanonical.hwaitto (now : Time) : EventCanonical.Statement (.hwaitto now) := ⟨rfl, rfl⟩
theorem EventCanonical.hfault (now : Time) : EventCanonical.Statement (.hfault now) := ⟨rfl, rfl⟩

end Sys2Proof.Laws
end

