-- ==== Sys2Proof/Machine/Macros.lean ====
section
/-! DEFINITION. The contract of the Edge Timing Source (30_encoding.md R83) and the pseudo-instructions that expand to `PULSE`
events (R102, R103). The nominal widths are the spec's general knowledge (log entry 22). -/

namespace Sys2Proof.Machine

/-- The operand the Edge Timing Source delivers for a true width: 65535 ticks or more saturate (R83). -/
def captureWidth (ticks : Nat) : Width :=
  if 65535 ≤ ticks then 65535 else BitVec.ofNat 16 ticks

/-- The microseconds a width stands for: a tick is `TICK_US` microseconds (00_scope.md R9). -/
def widthMicros (p : Params) (w : Width) : Nat := w.toNat * p.tickUs

/-- `GAP` (R102). -/
def macroGap : List Instr := [.pulse 65535]

/-- The eight pulses of one NEC byte, least significant bit first (R102). -/
def macroNecByte (b : Byte) : List Instr :=
  (List.range 8).map fun i => .pulse (if b.getLsbD i then 1125 else 562)

/-- `NECFRAME b0 b1 b2 b3` (R102). -/
def macroNecFrame (b0 b1 b2 b3 : Byte) : List Instr :=
  macroGap ++ [.pulse 6750] ++ macroNecByte b0 ++ macroNecByte b1 ++ macroNecByte b2 ++ macroNecByte b3

/-- `NECRPT g` (R102). -/
def macroNecRepeat (g : Width) : List Instr := [.pulse g, .pulse 5625]

/-- `SIRCFRAME v` for a variant of `n` bits (R102). -/
def macroSircFrame (n : Nat) (v : BitVec 20) : List Instr :=
  macroGap ++ [.pulse 1500] ++ (List.range n).map fun i => .pulse (if v.getLsbD i then 900 else 600)

/-- The half-bit levels of one RC5 bit, high as `true`: a 1 is (high, low), a 0 is (low, high) (R103). -/
def rc5Levels (b : Bool) : List Bool :=
  if b then [true, false] else [false, true]

/-- The widths between falling edges of a level sequence, with `since` the half-bits since the last edge (`none` before the
first): 889 for 2 half-bits, 1333 for 3, 1778 for 4 (R103). -/
def fallingIntervals : List Bool → Option Nat → List Instr
  | true :: false :: rest, since =>
    (match since with
     | none => []
     | some 2 => [.pulse 889]
     | some 3 => [.pulse 1333]
     | some 4 => [.pulse 1778]
     | some _ => []) ++ fallingIntervals (false :: rest) (some 1)
  | _ :: rest, since => fallingIntervals rest (since.map (· + 1))
  | [], _ => []

/-- The 14 bits of an RC5 frame: `1, 1, t, a[4..0], c[5..0]` (R102). -/
def rc5Bits (t : Bool) (a : BitVec 5) (c : BitVec 6) : List Bool :=
  [true, true, t] ++ [4, 3, 2, 1, 0].map (fun i => a.getLsbD i) ++ [5, 4, 3, 2, 1, 0].map (fun i => c.getLsbD i)

/-- `RC5FRAME t a c` (R102, R103). -/
def macroRc5Frame (t : Bool) (a : BitVec 5) (c : BitVec 6) : List Instr :=
  macroGap ++ fallingIntervals ([true] ++ (rc5Bits t a c).flatMap rc5Levels ++ [true]) none

end Sys2Proof.Machine
end

