-- ==== Sys2Proof/Tests/Slice0.lean ====
section
/-! SUPPORT. Tests. Words are written out from 30_encoding.md and 95_test_vectors.md; expected values are those of
95_test_vectors.md (the vector is named in each docstring) or of the cited rule. The witnesses at the end show, for each
statement with hypotheses, concrete values that meet them together. -/

namespace Sys2Proof.Tests

open Sys2Proof Sys2Proof.Machine Sys2Proof.Claims

/-! ## Helpers -/

/-- The producer at reset, with the default parameters. -/
def prod0 : Producer := Producer.reset Params.default

/-- A state with this producer, all else at reset. -/
def withProd (p : Producer) : State := { State.reset with prod := p }

/-- The decoder at a point of a collection, all else at reset. -/
def at_ (d : DState) (acc : BitVec 32) (idx : BitVec 6) : State :=
  withProd { prod0 with dstate := d, acc := acc, idx := idx }

/-- A state with this classifier and last host time, all else at reset. -/
def withCls (c : Classifier) (k : Option Time) : State := { State.reset with cls := c, hostClock := k }

/-- The classifier at reset, with the test configuration. -/
def cls0 : Classifier := Classifier.reset Params.default

/-- A field of the next state. -/
def field {α : Type} (f : State → α) (r : Result) : Option α :=
  match r with
  | .next t => some (f t)
  | _ => none

/-- The refusal a step answers. -/
def refusal (r : Result) : Option Refusal :=
  match r with
  | .refused x => some x
  | _ => none

/-- `DSTATE`, `IDX`, `ACC` of the next state. -/
def dec (r : Result) : Option (DState × BitVec 6 × BitVec 32) := field (fun t => (t.prod.dstate, t.prod.idx, t.prod.acc)) r

/-- The register image of the next state and its `notify`. -/
def img (r : Result) : Option (List Byte × Bool) := field (fun t => (regImage t.prod, t.outp.notify)) r

/-- The actions of the next state. -/
def acts (r : Result) : Option (List Action) := field (fun t => t.outp.out) r

/-- The snapshot shorthands of 95_test_vectors.md, head. -/
def snapP3 : BitVec 64 := 0x0381
def snapP4 : BitVec 64 := 0x0481
def snapPW : BitVec 64 := 0x4081
def snapVU : BitVec 64 := 0x0C81
def snapOK : BitVec 64 := 0x4481
def snapR : BitVec 64 := 0xFFFFFF00

/-! ## WellFormed: every check refuses an ill-formed term -/

theorem test_wf_default : Params.default.wf = true := by decide
theorem test_wf_leads : ({ Params.default with sircLead := ⟨1049, 1600⟩ } : Params).leadsDisjoint = false := by decide
theorem test_wf_rc5 : ({ Params.default with rc5T15 := ⟨1150, 1551⟩ } : Params).rc5Disjoint = false := by decide
theorem test_wf_threshold : ({ Params.default with necThr := 1351 } : Params).thresholdsInside = false := by decide
theorem test_wf_sirc_bits : ({ Params.default with sircBits := 13 } : Params).sircBitsLegal = false := by decide
theorem test_wf_frame_bits :
    ({ Params.default with necBits := 33 } : Params).frameBitsLegal = false ∧
    ({ Params.default with rc5Bits := 2 } : Params).frameBitsLegal = false := by decide
theorem test_wf_run_max : ({ Params.default with runMax := 0 } : Params).runMaxLegal = false := by decide
theorem test_wf_table_max : ({ Params.default with tableMax := 7 } : Params).hostStarts = false := by decide
theorem test_wf_ramp : ({ Params.default with rampFloor := 501 } : Params).rampLegal = false := by decide
theorem test_wf_table : ({ Params.default with table := none } : Params).hostStarts = false := by decide
theorem test_wf_timer : ({ Params.default with timerOk := false } : Params).hostStarts = false := by decide
theorem test_wf_lead_rows :
    ([.pulseIdleLRc5 1050, .pulseIdleLSirc 1399, .pulseIdleLNecr 6190, .pulseIdleLNec 7310, .pulseIdleLNoise 750]
      : List Instr).all (fun i => !i.wf Params.default) = true := by decide
theorem test_wf_bit_rows :
    ([.pulseNecCollectN0 800, .pulseNecCollectN1 799, .pulseNecCollectOut 450,
      .pulseSircCollectS0 750, .pulseSircCollectS1 749, .pulseSircCollectOut 999]
      : List Instr).all (fun i => !i.wf Params.default) = true := by decide
theorem test_wf_rc5_rows :
    ([.pulseRc5Mid1T1 1050, .pulseRc5Mid1T15 1149, .pulseRc5Mid1T2 1549,
      .pulseRc5Start0T1 749, .pulseRc5Start0T15 1550, .pulseRc5Start0T2 2000, .pulseRc5Out 889]
      : List Instr).all (fun i => !i.wf Params.default) = true := by decide

/-! ## Decode: one word for every constructor -/

theorem test_decode_pulse : decode (.p 0x0100000379) = .instr (.pulse 889) := by decide
theorem test_decode_irto : decode (.p 0x0200000000) = .instr .irto := by decide
theorem test_decode_rota : decode (.p 0x0300000000) = .instr .rota := by decide
theorem test_decode_rotb : decode (.p 0x0400000000) = .instr .rotb := by decide
theorem test_decode_rotto : decode (.p 0x0500000000) = .instr .rotto := by decide
theorem test_decode_btne : decode (.p 0x0680000100) = .instr (.btne 0x80000100) := by decide
theorem test_decode_btnt_1 : decode (.p 0x0700000001) = .instr (.btnt true) := by decide
theorem test_decode_btnt_0 : decode (.p 0x0700000000) = .instr (.btnt false) := by decide
theorem test_decode_consume : decode (.p 0x0800000000) = .instr .consume := by decide
theorem test_decode_read : decode (.p 0x0900000000) = .instr .read := by decide
theorem test_decode_prst : decode (.p 0x0A00000000) = .instr .prst := by decide
theorem test_decode_hsnap :
    decode (.h 0x81000000000000012C00000000FFFFFF00) = .instr (.hsnap 300 0xFFFFFF00) := by decide
theorem test_decode_htmr : decode (.h 0x8200000000000009600000000000000000) = .instr (.htmr 2400) := by decide
theorem test_decode_hrst : decode (.h 0x8300000000000000000000000000000000) = .instr .hrst := by decide
theorem test_decode_hwaitto : decode (.h 0x8400000000000013880000000000000000) = .instr (.hwaitto 5000) := by decide
theorem test_decode_hfault : decode (.h 0x8500000000000013880000000000000000) = .instr (.hfault 5000) := by decide

/-- The table decoder, `Idle` rows: 889, 1500, 5625, 6750, 65535. -/
theorem test_decode_idle_rows :
    ([0x0100000379, 0x01000005DC, 0x01000015F9, 0x0100001A5E, 0x010000FFFF] : List (BitVec 40)).map
      (fun b => decodeIn Params.default .idle (.p b)) =
    [.instr (.pulseIdleLRc5 889), .instr (.pulseIdleLSirc 1500), .instr (.pulseIdleLNecr 5625),
     .instr (.pulseIdleLNec 6750), .instr (.pulseIdleLNoise 65535)] := by decide

/-- The table decoder, NEC and SIRC rows: 562, 1125, 1350; 600, 900, 1200. -/
theorem test_decode_bit_rows :
    ([0x0100000232, 0x0100000465, 0x0100000546] : List (BitVec 40)).map
      (fun b => decodeIn Params.default .necCollect (.p b)) =
    [.instr (.pulseNecCollectN0 562), .instr (.pulseNecCollectN1 1125), .instr (.pulseNecCollectOut 1350)] ∧
    ([0x0100000258, 0x0100000384, 0x01000004B0] : List (BitVec 40)).map
      (fun b => decodeIn Params.default .sircCollect (.p b)) =
    [.instr (.pulseSircCollectS0 600), .instr (.pulseSircCollectS1 900), .instr (.pulseSircCollectOut 1200)] := by
  decide

/-- The table decoder, RC5 rows: 889, 1333, 1778, 1100; and a transient state. -/
theorem test_decode_rc5_rows :
    ([0x0100000379, 0x0100000535, 0x01000006F2, 0x010000044C] : List (BitVec 40)).map
      (fun b => decodeIn Params.default .rc5Mid1 (.p b)) =
    [.instr (.pulseRc5Mid1T1 889), .instr (.pulseRc5Mid1T15 1333), .instr (.pulseRc5Mid1T2 1778),
     .instr (.pulseRc5Out 1100)] ∧
    ([0x0100000379, 0x0100000535, 0x01000006F2, 0x010000044C] : List (BitVec 40)).map
      (fun b => decodeIn Params.default .rc5Start0 (.p b)) =
    [.instr (.pulseRc5Start0T1 889), .instr (.pulseRc5Start0T15 1333), .instr (.pulseRc5Start0T2 1778),
     .instr (.pulseRc5Out 1100)] ∧
    decodeIn Params.default .rc5Mid0 (.p 0x0100000379) = .instr (.pulseTransientAny 889) := by decide

/-- V60 `Refused`: a reserved code and non-zero must-be-zero fields. -/
theorem test_decode_refused :
    ([0x0B00000000, 0x0000000000, 0x0200000001, 0x0100010000, 0x0700000002] : List (BitVec 40)).map
      (fun b => decode (.p b)) =
    [.rejected .reservedEvent, .rejected .reservedEvent, .rejected .nonzeroMbz, .rejected .nonzeroMbz,
     .rejected .nonzeroMbz] ∧
    decode (.h 0x8300000000000000000000000000000001) = .rejected .nonzeroMbz := by decide

/-! ## One step of each instruction -/

/-- V40, class boundaries of `Idle`. -/
theorem test_pulse_rc5_lead : dec (exec (.pulse 750) State.reset) = some (.rc5Mid1, 2, 3) := by decide
theorem test_pulse_lead_gap : dec (exec (.pulse 1050) State.reset) = some (.idle, 0, 0) := by decide
theorem test_row_l_rc5 : dec (exec (.pulseIdleLRc5 1049) State.reset) = some (.rc5Mid1, 2, 3) := by decide
theorem test_row_l_sirc : dec (exec (.pulseIdleLSirc 1400) State.reset) = some (.sircCollect, 0, 0) := by decide
theorem test_row_l_nec : dec (exec (.pulseIdleLNec 6190) State.reset) = some (.necCollect, 0, 0) := by decide
/-- V40, orphan repeat. -/
theorem test_row_l_necr :
    img (exec (.pulseIdleLNecr 6189) State.reset) = some ([0x81, 0xFF, 0xFF, 0xFF, 0, 0, 0, 0], true) := by decide
/-- X3. -/
theorem test_row_l_noise :
    img (exec (.pulseIdleLNoise 3000) State.reset) = some ([0x00, 0xFF, 0xFF, 0xFF, 0, 0, 0, 0], false) := by decide
/-- V43, bit boundaries. -/
theorem test_row_n0 : dec (exec (.pulseNecCollectN0 799) (at_ .necCollect 0 0)) = some (.necCollect, 1, 0) := by decide
theorem test_row_n1 : dec (exec (.pulseNecCollectN1 800) (at_ .necCollect 0 0)) = some (.necCollect, 1, 1) := by decide
/-- X1, the last pulse. -/
theorem test_row_n1_completes : img (exec (.pulseNecCollectN1 1125) (at_ .necCollect 0x730CFF00 31)) =
    some ([0x81, 0x0C, 0, 0, 0, 0, 0, 0], true) := by decide
/-- V43, `NECFRAME 34 12 0C F3` (extended). -/
theorem test_nec_extended : img (exec (.pulse 1125) (at_ .necCollect 0x730C1234 31)) =
    some ([0x81, 0x0C, 0x34, 0x12, 0, 0, 0, 0], true) := by decide
/-- X2, the last pulse: a 0. -/
theorem test_row_n0_invalid : field (fun t => (t.prod.scan, t.outp.outcome))
    (exec (.pulseNecCollectN0 562) (at_ .necCollect 0x78563412 31)) = some (0, .checksumFail) := by decide
theorem test_row_n_out : dec (exec (.pulseNecCollectOut 1350) (at_ .necCollect 0x730CFF00 31)) = some (.idle, 0, 0) := by
  decide
/-- V42. -/
theorem test_row_s0 : dec (exec (.pulseSircCollectS0 749) (at_ .sircCollect 0 0)) = some (.sircCollect, 1, 0) := by decide
theorem test_row_s1 : dec (exec (.pulseSircCollectS1 900) (at_ .sircCollect 0x15 7)) = some (.sircCollect, 8, 0x95) := by
  decide
theorem test_row_s0_completes : img (exec (.pulseSircCollectS0 600) (at_ .sircCollect 0x95 11)) =
    some ([0x81, 0x95, 0, 0, 0, 0, 0, 0], true) := by decide
theorem test_row_s_out : dec (exec (.pulseSircCollectOut 1200) (at_ .sircCollect 5 3)) = some (.idle, 0, 0) := by decide
/-- V41, `RC5FRAME 0 5 0x35`. -/
theorem test_row_mid1_t1 : dec (exec (.pulseRc5Mid1T1 889) (at_ .rc5Mid1 0xC5 8)) = some (.rc5Mid1, 9, 0x18B) := by decide
theorem test_row_mid1_t15 : dec (exec (.pulseRc5Mid1T15 1333) (at_ .rc5Mid1 3 2)) = some (.rc5Start0, 3, 6) := by decide
theorem test_row_mid1_t2 : dec (exec (.pulseRc5Mid1T2 1778) (at_ .rc5Mid1 0x31 6)) = some (.rc5Mid1, 8, 0xC5) := by decide
theorem test_row_mid1_t2_completes : img (exec (.pulseRc5Mid1T2 1778) (at_ .rc5Mid1 0xC5D 12)) =
    some ([0x81, 0x75, 0x11, 0, 0, 0, 0, 0], true) := by decide
theorem test_row_start0_t1 : dec (exec (.pulseRc5Start0T1 889) (at_ .rc5Start0 6 3)) = some (.rc5Start0, 4, 0xC) := by
  decide
theorem test_row_start0_t15 : dec (exec (.pulseRc5Start0T15 1333) (at_ .rc5Start0 0xC 4)) = some (.rc5Mid1, 6, 0x31) := by
  decide
theorem test_row_start0_t2 : dec (exec (.pulseRc5Start0T2 1778) (at_ .rc5Start0 6 3)) = some (.idle, 0, 0) := by decide
theorem test_row_rc5_out : dec (exec (.pulseRc5Out 1100) (at_ .rc5Start0 6 3)) = some (.idle, 0, 0) := by decide
theorem test_row_transient : dec (exec (.pulseTransientAny 889) (at_ .reserved7 6 3)) = some (.idle, 0, 0) := by decide

/-- A button held and a direction set with a code shown: `A1 0C 00 00 01 01 00 00` (V44). -/
def shared : State := withProd { prod0 with
  cnt := 1, dirA := true, active := true, scan := 0x00000C, btn := 0x101
  irArmed := true, rotArmed := true, btnIrqEn := false, btnRun := true }

/-- V44, the shared-bit hazard. -/
theorem test_irto : img (exec .irto shared) = some ([0x20, 0xFF, 0xFF, 0xFF, 1, 1, 0, 0], true) := by decide
theorem test_irto_unarmed : img (exec .irto State.reset) = some ([0x00, 0xFF, 0xFF, 0xFF, 0, 0, 0, 0], false) := by decide
/-- V45. -/
theorem test_rota : img (exec .rota State.reset) = some ([0xA0, 0xFF, 0xFF, 0xFF, 0, 0, 0, 0], true) := by decide
theorem test_rotb : img (exec .rotb shared) = some ([0xC1, 0x0C, 0, 0, 1, 1, 0, 0], true) := by decide
theorem test_rotto : img (exec .rotto shared) = some ([0x01, 0x0C, 0, 0, 1, 1, 0, 0], true) := by decide
theorem test_btne : img (exec (.btne 0x100) State.reset) = some ([0x80, 0xFF, 0xFF, 0xFF, 1, 1, 0, 0], true) := by decide
theorem test_btne_masked : img (exec (.btne 0x200) shared) = some ([0xA1, 0x0C, 0, 0, 1, 1, 0, 0], false) := by decide
theorem test_btnt_held : img (exec (.btnt true) shared) = some ([0xA2, 0x0C, 0, 0, 1, 1, 0, 0], true) := by decide
theorem test_btnt_release : img (exec (.btnt false) shared) = some ([0x20, 0x0C, 0, 0, 0, 0, 0, 0], true) := by decide
/-- V44: the increment at 31 saturates, and the wake condition is tested before it. -/
theorem test_wake : field (fun t => (t.prod.cnt, t.outp.wake))
    (exec (.pulse 5625) (withProd { prod0 with cnt := 31 })) = some (31, true) := by decide
theorem test_no_wake_at_30 : field (fun t => (t.prod.cnt, t.outp.wake))
    (exec (.pulse 5625) (withProd { prod0 with cnt := 30 })) = some (31, false) := by decide
/-- R6: `CNT_MAX`, `NEC_BITS` and `NEC_INVALID` are parameters. -/
theorem test_parameters : field (fun t => (t.prod.cnt, t.prod.scan)) (exec (.pulse 562)
    { at_ .necCollect 0 7 with params := { Params.default with necBits := 8, cntMax := 0, necInvalid := 5 } }) =
    some (0, 5) := by decide
/-- V46. -/
theorem test_consume : img (exec .consume shared) = some ([0x21, 0x0C, 0, 0, 1, 1, 0, 0], false) := by decide
theorem test_read : field (fun t => (t.outp.ret, t.prod.busIdle))
    (exec .read (withProd { prod0 with cnt := 3, dirA := true, active := true, scan := 0x12340C, btn := 0x101 })) =
    some (some [0xA3, 0x0C, 0x34, 0x12, 1, 1, 0, 0], false) := by decide
/-- V70. -/
theorem test_prst : field (fun t => t.prod) (exec .prst shared) = some prod0 := by decide

/-- V47: `EXTRACT`. -/
theorem test_extract :
    ([0x0C81, 0x0C01, 0x10100000C81, 0x101FFFFFF80, 0xFFFFFFA0, 0xFFFFFFC0, 0xFFFFFFE0, 0xFFFFFF81, 0x81,
      0xFFFFFF00] : List (BitVec 64)).map (extract Params.default) =
    [some 0xC, none, some 0xC, some 0x101, some 0x01000020, some 0x01000040, some 0x01000020, none, some 0, none] := by
  decide
/-- X5: the delay boundary. -/
theorem test_hsnap_repeat_due : acts (exec (.hsnap 500 snapVU)
    (withCls { cls0 with lastKc := some 115 } (some 499))) = some [.cmd "volume +"] := by decide
theorem test_hsnap_repeat_early : acts (exec (.hsnap 499 snapVU)
    (withCls { cls0 with lastKc := some 115 } (some 0))) = some [] := by decide
/-- X6. -/
theorem test_htmr : acts (exec (.htmr 2400)
    (withCls { cls0 with dacc := 333, run := 3, deadline := some 2400 } none)) = some [.track 333] := by decide
theorem test_htmr_early : refusal (exec (.htmr 2399)
    (withCls { cls0 with dacc := 333, run := 3, deadline := some 2400 } none)) = some .timerNotDue := by decide
/-- V70. -/
theorem test_hrst : field (fun t => (t.cls, t.hostClock))
    (exec .hrst (withCls { cls0 with lastKc := some 115, run := 2, dacc := 33, ramp := 100 } (some 7))) =
    some (cls0, none) := by decide
/-- V46. -/
theorem test_hwaitto : field (fun t => (t.cls, t.outp.out)) (exec (.hwaitto 5000) State.reset) = some (cls0, []) := by
  decide
theorem test_hfault : field (fun t => (t.cls, t.outp.outcome)) (exec (.hfault 5000) State.reset) =
    some (cls0, .hostBusFault) := by decide

/-- A step from reset on the word of `PULSE 6750` runs it. -/
theorem test_step_fetch : field (fun t => (t.prod.dstate, t.pending))
    (step (State.reset.withFetchWord 40 0x0100001A5E)) = some (.necCollect, []) := by decide

/-! ## The timing source and the macros (30_encoding.md R83, R102, R103) -/

/-- R9: 750 ticks are 1.5 ms. -/
theorem test_tick : widthMicros Params.default 750 = 1500 := by decide

theorem test_capture_saturates : captureWidth 70000 = 65535 := by decide

/-- R103, the worked example `RC5FRAME 0 5 0x35`. -/
theorem test_rc5_macro : macroRc5Frame false 5 0x35 =
    [.pulse 65535, .pulse 889, .pulse 1333, .pulse 889, .pulse 1333, .pulse 1778, .pulse 889, .pulse 889, .pulse 1778,
     .pulse 1778] := by decide

/-- P1: the pulses of `0C`, least significant bit first. -/
theorem test_nec_byte_macro : macroNecByte 0x0C =
    [.pulse 562, .pulse 562, .pulse 1125, .pulse 1125, .pulse 562, .pulse 562, .pulse 562, .pulse 562] := by decide

/-! ## Witnesses: the hypotheses of each statement, met together -/

theorem hostUp_reset : HostUp State.reset := ⟨⟨_, rfl, by decide⟩, rfl⟩

/-- The host is up in every state with the default parameters. -/
theorem hostUp_cls (c : Classifier) (k : Option Time) : HostUp (withCls c k) := hostUp_reset

/-- The clock has not run backwards at or after the last `now`. -/
theorem clockOk_cls (c : Classifier) (last now : Time) (h : last.toNat ≤ now.toNat) : ClockOk now (withCls c (some last)) := by
  intro t ht
  cases ht
  exact h

theorem witness_HrstResetsClassifier : HostUp State.reset := hostUp_reset

theorem witness_HostEventsFault_table :
    Instr.onHostPort .hrst = true ∧ ({ Params.default with table := none } : Params).table = none := by decide

/-- A table of 65 entries. -/
theorem witness_HostEventsFault_long :
    Instr.onHostPort (.htmr 0) = true ∧
    ∃ tb, ({ Params.default with table := some (List.replicate 65 ⟨3, 515, "3"⟩) } : Params).table = some tb ∧
      Params.default.tableMax < tb.length :=
  ⟨by decide, _, rfl, by decide⟩

theorem witness_HostEventsFault_timer :
    Instr.onHostPort (.hsnap 0 0) = true ∧
    ({ Params.default with table := some [], timerOk := false } : Params).table = some [] ∧ ([] : List Binding).length ≤ 64 ∧
    ({ Params.default with table := some [], timerOk := false } : Params).timerOk = false := by decide

theorem witness_EncodeOfDecodeIsTheWord : decode (.p 0x0700000001) = .instr (.btnt true) := by decide

/-- A width at a bound of each window of the table, in the row's `DSTATE`: the `Idle` and NEC rows. -/
theorem witness_RowsDecode_idle_nec :
    Params.default.wf = true ∧
    InRow Params.default .idle 1049 .idleLRc5 ∧ InRow Params.default .idle 1400 .idleLSirc ∧
    InRow Params.default .idle 6189 .idleLNecr ∧ InRow Params.default .idle 6190 .idleLNec ∧
    InRow Params.default .idle 7310 .idleLNoise ∧ InRow Params.default .necCollect 799 .necCollectN0 ∧
    InRow Params.default .necCollect 800 .necCollectN1 ∧ InRow Params.default .necCollect 1350 .necCollectOut := by
  simp only [InRow, InNone, Within]; decide

/-- The same for the SIRC, RC5 and transient rows. -/
theorem witness_RowsDecode_sirc_rc5 :
    InRow Params.default .sircCollect 500 .sircCollectS0 ∧ InRow Params.default .sircCollect 999 .sircCollectS1 ∧
    InRow Params.default .sircCollect 1000 .sircCollectOut ∧ InRow Params.default .rc5Mid1 750 .rc5Mid1T1 ∧
    InRow Params.default .rc5Mid1 1549 .rc5Mid1T15 ∧ InRow Params.default .rc5Mid1 1550 .rc5Mid1T2 ∧
    InRow Params.default .rc5Start0 1049 .rc5Start0T1 ∧ InRow Params.default .rc5Start0 1150 .rc5Start0T15 ∧
    InRow Params.default .rc5Start0 1999 .rc5Start0T2 ∧ InRow Params.default .rc5Start0 2000 .rc5Out ∧
    InRow Params.default .reserved7 0 .transientAny := by
  simp only [InRow, InNone, Within]; decide

theorem witness_ReservedWordsRefused_p :
    (∃ s : State, s.pending = [.p 0x0B00000000]) ∧
    0x0A < ((0x0B00000000 : BitVec 40).extractLsb' 32 8).toNat ∧ ((0 : BitVec 40).extractLsb' 32 8).toNat = 0 ∧
    (0x0100010000 : BitVec 40).extractLsb' 16 16 ≠ 0 ∧ (0x0700000002 : BitVec 40).extractLsb' 1 31 ≠ 0 ∧
    (0x0A00000001 : BitVec 40).extractLsb' 0 32 ≠ 0 := by
  refine ⟨⟨State.reset.setPending _, rfl⟩, ?_⟩; decide

theorem witness_ReservedWordsRefused_h :
    (∃ s : State, s.pending = [.h 0x8600000000000000000000000000000000]) ∧
    ((0x8000000000000000000000000000000000 : BitVec 136).extractLsb' 128 8).toNat < 0x81 ∧
    0x85 < ((0x8600000000000000000000000000000000 : BitVec 136).extractLsb' 128 8).toNat ∧
    (0x8200000000000000000000000000000001 : BitVec 136).extractLsb' 0 64 ≠ 0 ∧
    (0x8300000000000000000000000000000001 : BitVec 136).extractLsb' 0 128 ≠ 0 := by
  refine ⟨⟨State.reset.setPending _, rfl⟩, ?_⟩; decide

theorem witness_StepRunsTheDecodedEvent :
    (State.reset.setPending [.p 0x0200000000]).pending = [.p 0x0200000000] ∧ decode (.p 0x0200000000) = .instr .irto := by
  decide

theorem witness_LeadClassesAreTheTable :
    Params.default.rc5Lead = ⟨750, 1050⟩ ∧ Params.default.sircLead = ⟨1400, 1600⟩ ∧
    Params.default.necrLead = ⟨5060, 6190⟩ ∧ Params.default.necLead = ⟨6190, 7310⟩ := by decide

/-- Both ends of the SIRC and the NEC lead window. -/
theorem witness_SircAndNecLeads :
    Params.default.wf = true ∧ State.reset.prod.dstate = .idle ∧
    Within Params.default.sircLead 1400 ∧ Within Params.default.sircLead 1599 ∧
    Within Params.default.necLead 6190 ∧ Within Params.default.necLead 7309 := by
  unfold Within; decide

theorem witness_Rc5LeadStartsWithTwoBits :
    Params.default.wf = true ∧ State.reset.prod.dstate = .idle ∧
    Within Params.default.rc5Lead 750 ∧ Within Params.default.rc5Lead 1049 := by
  unfold Within; decide

theorem witness_NecRepeatEmitsWithoutACode :
    Params.default.wf = true ∧ State.reset.prod.dstate = .idle ∧
    Within Params.default.necrLead 5060 ∧ Within Params.default.necrLead 6189 := by
  unfold Within; decide

theorem witness_NoiseInIdle :
    State.reset.prod.dstate = .idle ∧ State.reset.prod.acc = 0 ∧ State.reset.prod.idx = 0 ∧
    InNone [Params.default.rc5Lead, Params.default.sircLead, Params.default.necrLead, Params.default.necLead] 1050 ∧
    InNone [Params.default.rc5Lead, Params.default.sircLead, Params.default.necrLead, Params.default.necLead] 7310 := by
  unfold InNone Within; decide

/-- One witness for each of the four clauses, at a bound of its window. -/
theorem witness_OutOfWindowPulseAborts :
    (at_ .necCollect 0 8).prod.dstate = .necCollect ∧ ¬ Within Params.default.necBit 449 ∧
    ¬ Within Params.default.necBit 1350 ∧
    (at_ .sircCollect 0 8).prod.dstate = .sircCollect ∧ ¬ Within Params.default.sircBit 1000 ∧
    (at_ .rc5Mid1 3 2).prod.dstate = .rc5Mid1 ∧
    InNone [Params.default.rc5T1, Params.default.rc5T15, Params.default.rc5T2] 2000 ∧
    (at_ .rc5Start0 6 3).prod.dstate = .rc5Start0 ∧ Within Params.default.rc5T2 1550 ∧ Params.default.wf = true := by
  unfold InNone Within; decide

theorem witness_TransientStatesAbort :
    (at_ .leadClassified 5 3).prod.dstate = .leadClassified ∧ (at_ .rc5Mid0 5 3).prod.dstate = .rc5Mid0 ∧
    (at_ .reserved7 5 3).prod.dstate = .reserved7 := by decide

/-- Widths on both sides of the threshold, at the last place before completion. -/
theorem witness_NecPulsePlacesABit :
    Params.default.wf = true ∧ (at_ .necCollect 0 30).prod.dstate = .necCollect ∧
    (at_ .necCollect 0 30).prod.idx.toNat + 1 < Params.default.necBits ∧ Within Params.default.necBit 799 ∧ Within Params.default.necBit 800 := by
  unfold Within; decide

/-- X1 (standard), `NECFRAME 34 12 0C F3` (extended) and X2 (invalid). -/
theorem witness_NecFrame :
    Params.default.wf = true ∧ (at_ .necCollect 0x730CFF00 31).prod.dstate = .necCollect ∧
    (at_ .necCollect 0x730CFF00 31).prod.idx.toNat + 1 = Params.default.necBits ∧ Within Params.default.necBit 1125 ∧
    BitPlaced (at_ .necCollect 0x730CFF00 31).prod.acc (0xF3#8 ++ 0x0C#8 ++ 0xFF#8 ++ 0x00#8) (31 : BitVec 6).toNat
      (decide (Params.default.necThr ≤ (1125 : Width).toNat)) ∧
    BitPlaced (at_ .necCollect 0x730C1234 31).prod.acc (0xF3#8 ++ 0x0C#8 ++ 0x12#8 ++ 0x34#8) (31 : BitVec 6).toNat
      (decide (Params.default.necThr ≤ (1125 : Width).toNat)) ∧
    BitPlaced (at_ .necCollect 0x78563412 31).prod.acc (0x78#8 ++ 0x56#8 ++ 0x34#8 ++ 0x12#8) (31 : BitVec 6).toNat
      (decide (Params.default.necThr ≤ (562 : Width).toNat)) := by
  unfold BitPlaced Within; decide

/-- One place before the last, and the last. -/
theorem witness_SircPulse :
    Params.default.wf = true ∧ (at_ .sircCollect 0x95 10).prod.dstate = .sircCollect ∧
    (at_ .sircCollect 0x95 10).prod.idx.toNat + 1 ≠ Params.default.sircBits ∧
    (at_ .sircCollect 0x95 11).prod.idx.toNat < Params.default.sircBits ∧
    (at_ .sircCollect 0x95 11).prod.idx.toNat + 1 = Params.default.sircBits ∧
    Within Params.default.sircBit 500 ∧ Within Params.default.sircBit 999 := by
  unfold Within; decide

/-- The three rows, below the 14th bit and at it. -/
theorem witness_Rc5OneBitRows :
    Params.default.wf = true ∧ (at_ .rc5Mid1 0xC5 8).prod.dstate = .rc5Mid1 ∧ Within Params.default.rc5T1 1049 ∧
    Within Params.default.rc5T15 1549 ∧ (at_ .rc5Start0 6 3).prod.dstate = .rc5Start0 ∧
    (at_ .rc5Mid1 0xE2E 12).prod.idx.toNat + 1 < Params.default.rc5Bits ∧
    (at_ .rc5Mid1 0x1C5D 13).prod.idx.toNat + 1 = Params.default.rc5Bits := by
  unfold Within; decide

/-- The two rows, with two places free, one place short of them, and none. -/
theorem witness_Rc5TwoBitRows :
    Params.default.wf = true ∧ (at_ .rc5Mid1 0xC5 8).prod.dstate = .rc5Mid1 ∧ Within Params.default.rc5T2 1999 ∧
    (at_ .rc5Start0 6 3).prod.dstate = .rc5Start0 ∧ Within Params.default.rc5T15 1150 ∧
    (at_ .rc5Mid1 0x62E 11).prod.idx.toNat + 2 < Params.default.rc5Bits ∧
    (at_ .rc5Mid1 0xC5D 12).prod.idx.toNat + 2 = Params.default.rc5Bits ∧
    (at_ .rc5Mid1 0x18BB 13).prod.idx.toNat + 1 = Params.default.rc5Bits := by
  unfold Within; decide

theorem witness_NecCollection :
    Params.default.wf = true ∧ (at_ .necCollect 0 0).prod.dstate = .necCollect ∧ (at_ .necCollect 0 0).prod.acc = 0 ∧
    (at_ .necCollect 0 0).prod.idx = 0 ∧ (List.replicate 31 (1125 : Width)).length + 1 ≤ Params.default.necBits ∧
    ∀ w ∈ List.replicate 31 (1125 : Width), Within Params.default.necBit w := by
  refine ⟨by decide, rfl, rfl, rfl, by decide, fun w hw => ?_⟩
  rw [List.eq_of_mem_replicate hw]
  unfold Within; decide

theorem witness_SircFrame :
    Params.default.wf = true ∧ (at_ .sircCollect 0 0).prod.dstate = .sircCollect ∧ (at_ .sircCollect 0 0).prod.acc = 0 ∧
    (at_ .sircCollect 0 0).prod.idx = 0 ∧ (List.replicate 12 (900 : Width)).length = Params.default.sircBits ∧
    ∀ w ∈ List.replicate 12 (900 : Width), Within Params.default.sircBit w := by
  refine ⟨by decide, rfl, rfl, rfl, by decide, fun w hw => ?_⟩
  rw [List.eq_of_mem_replicate hw]
  unfold Within; decide

/-- The armed and the disarmed clause of `IRTO`, `ROTTO`, `BTNE` and `BTNT`. -/
theorem witness_ProducerClauses :
    (shared.prod.irArmed = true ∧ shared.prod.rotArmed = true ∧ shared.prod.btnIrqEn = false ∧ shared.prod.btnRun = true) ∧
    (State.reset.prod.irArmed = false ∧ State.reset.prod.rotArmed = false ∧ State.reset.prod.btnIrqEn = true ∧
      State.reset.prod.btnRun = false) := by decide

/-- The timer due with a run, due without one, not armed, and early. -/
theorem witness_TimerExpiry :
    HostUp State.reset ∧ ClockOk 2400 (withCls cls0 (some 2400)) ∧
    ({ cls0 with run := 1, dacc := 3, deadline := some 2400 } : Classifier).deadline = some 2400 ∧
    (2400 : Nat) ≤ (2400 : Time).toNat ∧ cls0.run = 0 ∧ cls0.deadline = none ∧ (2399 : Time).toNat < 2400 :=
  ⟨hostUp_reset, clockOk_cls _ _ _ (by decide), by decide⟩

theorem witness_WaitAndBusFault : HostUp (withCls cls0 (some 7)) ∧ ClockOk 7 (withCls cls0 (some 7)) :=
  ⟨hostUp_reset, clockOk_cls _ _ _ (by decide)⟩

theorem witness_BackwardClockRefused :
    HostUp (withCls cls0 (some 100)) ∧ (withCls cls0 (some 100)).hostClock = some 100 ∧
    (99 : Time).toNat < (100 : Time).toNat :=
  ⟨hostUp_reset, by decide⟩

/-- A first match behind another entry, and an unbound code. -/
theorem witness_LookupIsFirstExactMatch :
    (4 : ScanCode) ≠ 0 ∧ ({ Params.default with table := some ([⟨3, 515, "3"⟩] ++ ⟨4, 516, "4"⟩ :: []) } : Params).table =
      some ([⟨3, 515, "3"⟩] ++ ⟨4, 516, "4"⟩ :: []) ∧
    (∀ x ∈ ([⟨3, 515, "3"⟩] : List Binding), x.scancode ≠ 4) := by decide

/-- The three clauses, each with a key of each class it names. -/
theorem witness_SnapshotsThatOnlyTrackTheKey :
    HostUp State.reset ∧ ClockOk 5 (withCls cls0 (some 5)) ∧ shown State.reset snapR = none ∧
    keyClass Params.default 115 = .repeatKey ∧ keyClass Params.default 28 = .genericKey ∧
    shown State.reset snapPW = some (116, "power") ∧ keyClass Params.default 116 = .powerKey ∧
    shown State.reset snapP3 = some (515, "3") ∧ keyClass Params.default 515 = .digitKey 3 :=
  ⟨hostUp_reset, clockOk_cls _ _ _ (by decide), by decide⟩

theorem witness_RepeatKeyFiresOnPress :
    HostUp State.reset ∧ ClockOk 0 (withCls cls0 (some 0)) ∧ (withCls cls0 (some 0)).cls.lastKc = none ∧
    shown (withCls cls0 (some 0)) snapVU = some (115, "volume +") ∧ keyClass Params.default 115 = .repeatKey :=
  ⟨hostUp_reset, clockOk_cls _ _ _ (by decide), by decide⟩

/-- The delay just elapsed, one millisecond short, and a key of another class. -/
theorem witness_HeldKeyRepeats :
    HostUp State.reset ∧ ClockOk 500 (withCls { cls0 with lastKc := some 115 } (some 499)) ∧
    shown State.reset snapVU = some (115, "volume +") ∧ keyClass Params.default 115 = .repeatKey ∧
    cls0.ramp + cls0.tFire.toNat ≤ (500 : Time).toNat ∧ cls0.tFire.toNat ≤ (499 : Time).toNat ∧
    (499 : Time).toNat < cls0.ramp + cls0.tFire.toNat ∧
    shown State.reset snapOK = some (28, "ok") ∧ keyClass Params.default 28 ≠ .repeatKey :=
  ⟨hostUp_reset, clockOk_cls _ _ _ (by decide), by decide⟩

/-- X7: a hold of 800 and a hold of 799. -/
theorem witness_PowerKeyShutsDown :
    HostUp State.reset ∧ ClockOk 1800 (withCls { cls0 with lastKc := some 116, tPress := 1000 } (some 1000)) ∧
    keyClass Params.default 116 = .powerKey ∧ shown State.reset snapPW = some (116, "power") ∧
    shown State.reset snapR = none ∧ (1000 : Time).toNat + Params.default.holdMs ≤ (1800 : Time).toNat ∧
    (1000 : Time).toNat ≤ (1799 : Time).toNat ∧ ¬ (1000 : Time).toNat + Params.default.holdMs ≤ (1799 : Time).toNat :=
  ⟨hostUp_reset, clockOk_cls _ _ _ (by decide), by decide⟩

/-- R226: press of 4 at 200, release at 1000. -/
theorem witness_LongDigitJumpsToPreset :
    HostUp State.reset ∧ ClockOk 1000 (withCls { cls0 with lastKc := some 516, tPress := 200 } (some 200)) ∧
    keyClass Params.default 516 = .digitKey 4 ∧ shown State.reset snapR = none ∧
    (200 : Time).toNat + Params.default.holdMs ≤ (1000 : Time).toNat :=
  ⟨hostUp_reset, clockOk_cls _ _ _ (by decide), by decide⟩

/-- The classifier of V47 with a digit key 4 pressed at 900 and the last short release at 100, in a run of `n` digits. -/
def digitDown (n : Nat) : State :=
  withCls { cls0 with lastKc := some 516, tPress := 900, tLastRel := 100, run := n, deadline := some 1100 } (some 900)

/-- V47: at 1099 a gap of 999, at 1100 a gap of 1000; the runs of 1 and 2 digits append at 1099, those of 0 and 3 restart. -/
theorem witness_ShortDigit :
    (∀ n, HostUp (digitDown n)) ∧ (∀ n, ClockOk 1099 (digitDown n)) ∧
    (digitDown 1).cls.lastKc = some 516 ∧ keyClass Params.default 516 = .digitKey 4 ∧ shown (digitDown 1) snapR = none ∧
    (digitDown 1).cls.tPress.toNat ≤ (1099 : Time).toNat ∧
    (1100 : Time).toNat < (digitDown 1).cls.tPress.toNat + Params.default.holdMs ∧
    (1 ≤ (digitDown 1).cls.run → (digitDown 1).cls.tLastRel.toNat ≤ (1099 : Time).toNat) ∧
    (1 ≤ (digitDown 1).cls.run ∧ (digitDown 1).cls.run < Params.default.runMax ∧
      (1099 : Time).toNat < (digitDown 1).cls.tLastRel.toNat + Params.default.tapMs) ∧
    (1 ≤ (digitDown 2).cls.run ∧ (digitDown 2).cls.run < Params.default.runMax) ∧
    ¬ (digitDown 3).cls.run < Params.default.runMax ∧ ¬ 1 ≤ (digitDown 0).cls.run ∧
    ¬ (1100 : Time).toNat < (digitDown 1).cls.tLastRel.toNat + Params.default.tapMs :=
  ⟨fun _ => hostUp_reset, fun _ => clockOk_cls _ _ _ (by decide), by decide⟩

theorem witness_GenericKey :
    HostUp State.reset ∧ ClockOk 108 (withCls { cls0 with lastKc := some 28 } (some 0)) ∧
    keyClass Params.default 28 = .genericKey ∧ shown State.reset snapOK = some (28, "ok") ∧
    shown State.reset snapR = none :=
  ⟨hostUp_reset, clockOk_cls _ _ _ (by decide), by decide⟩

/-- V47: key change without release, from 28 to 115 at 50. -/
theorem witness_KeyChange :
    ∃ t u, (withCls { cls0 with lastKc := some 28 } (some 0)).cls.lastKc = some 28 ∧
      shown State.reset snapVU = some (115, "volume +") ∧ (28 : Keycode) ≠ 115 ∧ shown State.reset snapR = none ∧
      exec (.hsnap 50 snapR) (withCls { cls0 with lastKc := some 28 } (some 0)) = .next t ∧
      exec (.hsnap 50 snapVU) t = .next u :=
  ⟨_, _, by decide, by decide, by decide, by decide, rfl, rfl⟩

theorem witness_RampBounds :
    Params.default.wf = true ∧ Params.default.rampFloor ≤ 100 ∧ Params.default.rampFloor < 500 * 85 / 100 := by decide

/-- A good state in the middle of an NEC frame, a button held and a digit key down with an open run. -/
def busy : State where
  prod := { prod0 with
    dstate := .necCollect, acc := 0x1F, idx := 5, irArmed := true, btn := 0x101, btnIrqEn := false, btnRun := true }
  cls := { cls0 with lastKc := some 515, tPress := 50, run := 1, dacc := 3, tLastRel := 40, deadline := some 1040 }
  params := Params.default
  outp := {}
  hostClock := some 60
  pending := [.p 0x0100000465]

theorem witness_StepKeepsGood : Good busy ∧ ∃ t, step busy = .next t := by
  refine ⟨⟨by decide, ⟨by decide, by unfold highClear; decide⟩, ⟨rfl, rfl, fun _ => rfl, fun h => Bool.noConfusion h, fun _ => ⟨rfl, rfl⟩⟩,
    (by decide : (0 : Nat) ≤ 31),
    ⟨by decide, by decide, fun _ => rfl, by decide, by decide⟩, fun _ _ => ?_, fun k hk hr => ?_, fun _ => ?_⟩, _, rfl⟩
  · exact (by decide : (50 : Nat) ≤ 60)
  · cases hk; exact absurd hr (by decide)
  · exact (by decide : (40 : Nat) ≤ 60)

theorem witness_EverySnapshotIsClassified : HostUp busy ∧ ClockOk 60 busy := by
  refine ⟨hostUp_reset, fun t ht => ?_⟩
  cases ht
  exact Nat.le_refl _

/-- A next state of an event of each port and of `READ`. -/
theorem witness_AgentsDoNotWriteEachOther :
    (∃ t, exec (.hsnap 60 snapP3) busy = .next t ∧ Instr.onHostPort (.hsnap 60 snapP3) = true) ∧
    (∃ t, exec (.pulse 562) busy = .next t ∧ Instr.onHostPort (.pulse 562) = false) ∧
    (∃ t, exec .read busy = .next t) :=
  ⟨⟨_, rfl, by decide⟩, ⟨_, rfl, by decide⟩, ⟨_, rfl⟩⟩

theorem witness_AgentsDoNotReadEachOther :
    Instr.onHostPort .irto = false ∧ Instr.onHostPort (.hsnap 60 snapP3) = true ∧
    ∃ t, exec (.hsnap 60 snapP3) busy = .next t :=
  ⟨by decide, by decide, _, rfl⟩

theorem witness_ConfigurationIsImmutable : ∃ t, exec (.btnt true) busy = .next t := ⟨_, rfl⟩

/-- An emission at `CNT_MAX`, a held tick, the release tick, and an event that leaves the counter. -/
theorem witness_CounterNeverWraps :
    (∃ t, exec (.pulse 5625) (withProd { prod0 with cnt := 31 }) = .next t ∧ t.outp.notify = true) ∧
    (∃ t, exec (.btnt true) busy = .next t ∧ busy.prod.btnRun = true) ∧
    (∃ t, exec (.btnt false) busy = .next t) ∧
    (∃ t, exec .rota (withProd { prod0 with cnt := 31 }) = .next t ∧
      (withProd { prod0 with cnt := 31 }).prod.cnt = Params.default.cntMax) :=
  ⟨⟨_, rfl, rfl⟩, ⟨_, rfl, rfl⟩, ⟨_, rfl⟩, ⟨_, rfl, rfl⟩⟩

theorem witness_WakeOnlySaturatedAndUnread :
    ∃ t, exec (.pulse 5625) (withProd { prod0 with cnt := 31 }) = .next t ∧ t.outp.wake = true := ⟨_, rfl, rfl⟩

theorem witness_BusIdleFollowsNotifyAndRead : ∃ t, exec .read busy = .next t ∧ t.outp.notify = false := ⟨_, rfl, rfl⟩

theorem witness_RegisterChangesAreNotified :
    ∃ t, exec (.pulse 562) busy = .next t ∧ (Instr.pulse 562 ≠ .consume ∧ Instr.pulse 562 ≠ .prst) ∧ t.outp.notify = false :=
  ⟨_, rfl, by decide, rfl⟩

/-- `SCAN` by a completing pulse, `BTN` by the release tick, the decoder by a pulse, `ACTIVE` by `CONSUME`. -/
theorem witness_OnlyNamedEventsWrite :
    (∃ t, exec (.pulse 600) (at_ .sircCollect 0x95 11) = .next t ∧ t.prod.scan ≠ (at_ .sircCollect 0x95 11).prod.scan) ∧
    (∃ t, exec (.btnt false) shared = .next t ∧ t.prod.btn ≠ shared.prod.btn) ∧
    (∃ t, exec (.pulse 562) busy = .next t ∧ t.prod.idx ≠ busy.prod.idx) ∧
    (∃ t, exec .consume shared = .next t ∧ shared.prod.active = true ∧ t.prod.active = false) :=
  ⟨⟨_, rfl, by decide⟩, ⟨_, rfl, by decide⟩, ⟨_, rfl, by decide⟩, ⟨_, rfl, by decide⟩⟩

/-- With no key down, `T_PRESS` and `T_FIRE` cannot be told apart. -/
theorem witness_UnwrittenTimestamps :
    SameReadable State.reset (withCls { cls0 with tPress := 7, tRelease := 8, tLastRel := 9, tFire := 10 } none) := by
  unfold SameReadable; decide

end Sys2Proof.Tests
end

section
/-! PROOFS. What the events of each port leave alone (10_state.md R37): reasoning rules for `exec`, and the statement that no
agent writes the other. -/

namespace Sys2Proof.Proofs

open Sys2Proof Sys2Proof.Machine

/-! ## A row of the transition table is a spelling of `PULSE` -/

/-- On the selected row the two meanings agree by the choice of the row, elsewhere by definition. -/
theorem asRow_rowAction (r : PulseRow) (w : Width) (s : State) : asRow r (rowAction r) w s = execPulse w s := by
  unfold asRow
  split
  next selected => rw [execPulse, selected]
  next => rfl

/-- An instruction does what the event it stands for does (30_encoding.md R95; log entry 4). -/
theorem exec_event (i : Instr) (s : State) : exec i.event s = exec i s := by
  cases i with
  | pulseIdleLRc5 w | pulseIdleLSirc w | pulseIdleLNecr w | pulseIdleLNec w | pulseIdleLNoise w
  | pulseNecCollectN0 w | pulseNecCollectN1 w | pulseNecCollectOut w
  | pulseSircCollectS0 w | pulseSircCollectS1 w | pulseSircCollectOut w
  | pulseRc5Mid1T1 w | pulseRc5Mid1T15 w | pulseRc5Mid1T2 w
  | pulseRc5Start0T1 w | pulseRc5Start0T15 w | pulseRc5Start0T2 w
  | pulseRc5Out w | pulseTransientAny w => exact (asRow_rowAction _ w s).symm
  | _ => rfl

/-! ## Events of the producer port -/

/-- What an event of the producer port leaves alone: the host, the parameters and the pending words. -/
structure ProducerPortFrame (s t : State) : Prop where
  cls : t.cls = s.cls
  hostClock : t.hostClock = s.hostClock
  params : t.params = s.params
  pending : t.pending = s.pending

theorem execPulse_frame {w : Width} {s t : State} (h : execPulse w s = .next t) : ProducerPortFrame s t := by
  cases h
  have row := rowAction_frame (selectedRow w s) (pulseBegin s)
  exact ⟨row.cls, row.hostClock, row.params, row.pending⟩

theorem execIrto_frame {s t : State} (h : execIrto s = .next t) : ProducerPortFrame s t := by
  cases h
  split <;> exact ⟨rfl, rfl, rfl, rfl⟩

theorem execRota_frame {s t : State} (h : execRota s = .next t) : ProducerPortFrame s t := by
  cases h
  exact ⟨rfl, rfl, rfl, rfl⟩

theorem execRotb_frame {s t : State} (h : execRotb s = .next t) : ProducerPortFrame s t := by
  cases h
  exact ⟨rfl, rfl, rfl, rfl⟩

theorem execRotto_frame {s t : State} (h : execRotto s = .next t) : ProducerPortFrame s t := by
  cases h
  split <;> exact ⟨rfl, rfl, rfl, rfl⟩

theorem execBtne_frame {id : BitVec 32} {s t : State} (h : execBtne id s = .next t) : ProducerPortFrame s t := by
  cases h
  split <;> exact ⟨rfl, rfl, rfl, rfl⟩

theorem execBtnt_frame {level : Bool} {s t : State} (h : execBtnt level s = .next t) : ProducerPortFrame s t := by
  cases h
  split
  · split <;> exact ⟨rfl, rfl, rfl, rfl⟩
  · exact ⟨rfl, rfl, rfl, rfl⟩

theorem execConsume_frame {s t : State} (h : execConsume s = .next t) : ProducerPortFrame s t := by
  cases h
  exact ⟨rfl, rfl, rfl, rfl⟩

/-- Everything `READ` does (46_register_port.md R190): it always has the one legal shape. -/
theorem execRead_eq (s : State) :
    execRead s = .next { s with
      prod := { s.prod with busIdle := false }
      outp := { ret := some (regImage s.prod) } } := rfl

theorem execRead_frame {s t : State} (h : execRead s = .next t) : ProducerPortFrame s t := by
  cases h
  exact ⟨rfl, rfl, rfl, rfl⟩

theorem execPrst_frame {s t : State} (h : execPrst s = .next t) : ProducerPortFrame s t := by
  cases h
  exact ⟨rfl, rfl, rfl, rfl⟩

/-- Every event of the producer port keeps the frame; a row of R95 does so as the `PULSE` it stands for. -/
theorem exec_producerPort_frame {i : Instr} {s t : State} (port : i.onHostPort = false) (h : exec i s = .next t) :
    ProducerPortFrame s t := by
  rw [← exec_event] at h
  cases i with
  | irto => exact execIrto_frame h
  | rota => exact execRota_frame h
  | rotb => exact execRotb_frame h
  | rotto => exact execRotto_frame h
  | btne id => exact execBtne_frame h
  | btnt level => exact execBtnt_frame h
  | consume => exact execConsume_frame h
  | read => exact execRead_frame h
  | prst => exact execPrst_frame h
  | hsnap | htmr | hrst | hwaitto | hfault => cases port
  | _ => exact execPulse_frame h

/-! ## Events of the host port -/

/-- What an event of the host port leaves alone: the producer, the parameters and the pending words. -/
structure HostPortFrame (s t : State) : Prop where
  prod : t.prod = s.prod
  params : t.params = s.params
  pending : t.pending = s.pending

/-- The frame of the classifier is one of the host port. -/
theorem hostFrame_portFrame {s t : State} (h : HostFrame s t) : HostPortFrame s t :=
  ⟨h.prod, h.params, h.pending⟩

/-- A host event that carries `now` keeps the frame when its body does. -/
theorem atTime_frame {now : Time} {s t : State} {k : State → Result}
    (body : ∀ u v, k u = .next v → HostPortFrame u v) (h : atTime now s k = .next t) : HostPortFrame s t := by
  obtain ⟨-, -, ran⟩ := atTime_next h
  obtain ⟨prod, params, pending⟩ := body _ _ ran
  exact ⟨prod, params, pending⟩

theorem execHsnap_frame {now : Time} {snap : BitVec 64} {s t : State} (h : execHsnap now snap s = .next t) :
    HostPortFrame s t := by
  refine atTime_frame (fun u v ran => ?_) h
  cases ran
  exact hostFrame_portFrame (classify_frame _ _ _)

theorem execHtmr_frame {now : Time} {s t : State} (h : execHtmr now s = .next t) : HostPortFrame s t := by
  refine atTime_frame (fun u v ran => ?_) h
  split at ran
  · cases ran
    exact hostFrame_portFrame (timerExpiry_frame _)
  · cases ran

theorem execHrst_frame {s t : State} (h : execHrst s = .next t) : HostPortFrame s t := by
  obtain ⟨-, ran⟩ := onHost_next h
  cases ran
  exact ⟨rfl, rfl, rfl⟩

theorem execHwaitto_frame {now : Time} {s t : State} (h : execHwaitto now s = .next t) : HostPortFrame s t := by
  refine atTime_frame (fun u v ran => ?_) h
  cases ran
  exact ⟨rfl, rfl, rfl⟩

theorem execHfault_frame {now : Time} {s t : State} (h : execHfault now s = .next t) : HostPortFrame s t := by
  refine atTime_frame (fun u v ran => ?_) h
  cases ran
  exact ⟨rfl, rfl, rfl⟩

/-- Every event of the host port keeps the frame. -/
theorem exec_hostPort_frame {i : Instr} {s t : State} (port : i.onHostPort = true) (h : exec i s = .next t) :
    HostPortFrame s t := by
  cases i with
  | hsnap now snap => exact execHsnap_frame h
  | htmr now => exact execHtmr_frame h
  | hrst => exact execHrst_frame h
  | hwaitto now => exact execHwaitto_frame h
  | hfault now => exact execHfault_frame h
  | _ => cases port

/-! ## No agent writes the other -/

/-- `BUS_IDLE` is in no byte of the register (10_state.md R36, R37). -/
theorem regImage_busIdle (p : Producer) (b : Bool) : regImage { p with busIdle := b } = regImage p :=
  regImage_congr rfl rfl rfl rfl rfl rfl

/-- Settles O51: each port's frame, and the equation of `READ`. -/
theorem agentsDoNotWriteEachOther : Obligations.AgentsDoNotWriteEachOther := by
  intro i s t h
  refine ⟨fun port => (exec_hostPort_frame port h).prod, fun port => ?_, fun isRead => ?_⟩
  · have frame := exec_producerPort_frame port h
    exact ⟨frame.cls, frame.hostClock⟩
  · subst isRead
    cases (execRead_eq s).symm.trans h
    exact ⟨rfl, regImage_busIdle s.prod false⟩

end Sys2Proof.Proofs
end

section
namespace Sys2Proof.Proofs

open Sys2Proof Sys2Proof.Machine

/-! ## The byte window (20_memory.md) -/

/-- `BUS_IDLE` is in no byte of the window (20_memory.md R65). -/
theorem readByte_busIdle (p : Producer) (b : Bool) (off : Nat) :
    readByte { p with busIdle := b } off = readByte p off := by
  rw [readByte, regImage_busIdle, readByte]

/-- Settles O33: the equation of `READ`, twice, and that `BUS_IDLE`, all it changes, is in no byte. -/
theorem readIsIdempotent : Obligations.ReadIsIdempotent := by
  intro s
  have sameImage := regImage_busIdle s.prod false
  exact ⟨_, _, execRead_eq s, execRead_eq _, congrArg some sameImage, rfl, rfl, rfl,
    readByte_busIdle s.prod false⟩

end Sys2Proof.Proofs
end

section
/-! PROOFS. `PULSE` in `Idle` (40_lead_classifier.md): the lead class of a width from its window, the row the class selects, and
the effect of a selected row spelled both ways. -/

namespace Sys2Proof.Proofs

open Sys2Proof Sys2Proof.Machine Sys2Proof.Claims

/-! ## Width windows (00_scope.md R13, 30_encoding.md R88) -/

theorem inWindow_iff {w : Width} {win : Window} : inWindow w win = true ↔ Within win w := by
  rw [inWindow, Bool.and_eq_true, decide_eq_true_eq, decide_eq_true_eq, Within]

theorem window_disjoint_iff {a b : Window} : a.disjoint b = true ↔ a.hi ≤ b.lo ∨ b.hi ≤ a.lo := by
  rw [Window.disjoint, Bool.or_eq_true, decide_eq_true_eq, decide_eq_true_eq]

/-- A width in one of two disjoint windows is not in the other. -/
theorem not_inWindow_of_disjoint {a b : Window} {w : Width} (apart : a.disjoint b = true) (inB : Within b w) :
    ¬ inWindow w a = true := by
  rw [inWindow_iff]
  rintro ⟨aboveLo, belowHi⟩
  obtain ⟨aboveLo', belowHi'⟩ := inB
  rcases window_disjoint_iff.mp apart with h | h <;> omega

theorem leadsDisjoint_of_wf {p : Params} (wf : p.wf = true) : p.leadsDisjoint = true := by
  simp only [Params.wf, Bool.and_eq_true] at wf
  obtain ⟨⟨⟨⟨⟨⟨⟨leads, -⟩, -⟩, -⟩, -⟩, -⟩, -⟩, -⟩ := wf
  exact leads

/-! ## The lead class of a width (40_lead_classifier.md R112) -/

/-- Disjointness rules out the one window that R112 tests before the SIRC lead's. -/
theorem leadClass_of_sircLead {p : Params} {w : Width} (apart : p.leadsDisjoint = true) (lead : Within p.sircLead w) :
    leadClass p w = .sirc := by
  simp only [Params.leadsDisjoint, Bool.and_eq_true] at apart
  obtain ⟨⟨⟨⟨⟨rc5_sirc, -⟩, -⟩, -⟩, -⟩, -⟩ := apart
  rw [leadClass, if_neg (not_inWindow_of_disjoint rc5_sirc lead), if_pos (inWindow_iff.mpr lead)]

/-- Disjointness rules out the three windows that R112 tests before the NEC lead's. -/
theorem leadClass_of_necLead {p : Params} {w : Width} (apart : p.leadsDisjoint = true) (lead : Within p.necLead w) :
    leadClass p w = .nec := by
  simp only [Params.leadsDisjoint, Bool.and_eq_true] at apart
  obtain ⟨⟨⟨⟨⟨-, -⟩, rc5_nec⟩, -⟩, sirc_nec⟩, necr_nec⟩ := apart
  rw [leadClass, if_neg (not_inWindow_of_disjoint rc5_nec lead), if_neg (not_inWindow_of_disjoint sirc_nec lead),
    if_neg (not_inWindow_of_disjoint necr_nec lead), if_pos (inWindow_iff.mpr lead)]

theorem leadClass_of_inNone {p : Params} {w : Width}
    (noise : InNone [p.rc5Lead, p.sircLead, p.necrLead, p.necLead] w) : leadClass p w = .noise := by
  simp only [InNone, List.forall_mem_cons, ← inWindow_iff] at noise
  obtain ⟨notRc5, notSirc, notNecr, notNec, -⟩ := noise
  rw [leadClass, if_neg notRc5, if_neg notSirc, if_neg notNecr, if_neg notNec]

/-! ## The selected row and its effect (30_encoding.md R95) -/

/-- The row of `Idle` that a lead class names. -/
def leadRow : LeadClass → PulseRow
  | .rc5 => .idleLRc5
  | .sirc => .idleLSirc
  | .necr => .idleLNecr
  | .nec => .idleLNec
  | .noise => .idleLNoise

theorem selectedRow_idle {s : State} {w : Width} {c : LeadClass} (idle : s.prod.dstate = .idle)
    (lead : leadClass s.params w = c) : selectedRow w s = leadRow c := by
  rw [selectedRow, idle, pulseRow, lead]
  cases c <;> rfl

theorem exec_pulse (w : Width) (s : State) : exec (.pulse w) s = execPulse w s := rfl

/-- The effect of the selected row is that of `PULSE w` and of every spelling of it. -/
theorem pulseEffect_of_selectedRow {r : PulseRow} {row : Width → Instr} {w : Width} {s : State} {p : Producer} {o : Outputs}
    (spelling : (row w).event = .pulse w) (selected : selectedRow w s = r)
    (effect : rowAction r (pulseBegin s) = { s with prod := p, outp := o }) : PulseEffect row w s p o := by
  have pulse : exec (.pulse w) s = .next { s with prod := p, outp := o } := by
    rw [exec_pulse, execPulse, selected, effect]
  refine ⟨pulse, ?_⟩
  rw [← exec_event, spelling, pulse]

/-- A pulse that starts a collector, with the common part R110. -/
theorem startCollector_pulseBegin (d : DState) (acc : BitVec 32) (idx : BitVec 6) (s : State) :
    startCollector d acc idx (pulseBegin s) =
      { s with prod := { s.prod with irArmed := true, dstate := d, acc := acc, idx := idx }, outp := {} } := rfl

/-- A pulse that aborts (R111), with the common part R110. -/
theorem abort_pulseBegin (s : State) :
    abort (pulseBegin s) = { s with prod := afterAbort s.prod, outp := { outcome := .noiseAbort } } := by
  rw [abort_eq, pulseBegin_eq, afterAbort]

/-- Where nothing is collected, `ABORT` has nothing to discard. -/
theorem afterAbort_of_idle {p : Producer} (idle : p.dstate = .idle) (acc : p.acc = 0) (idx : p.idx = 0) :
    afterAbort p = { p with irArmed := true } := by
  rw [afterAbort, ← idle, ← acc, ← idx]

/-! ## `PULSE` in `Idle` -/

/-- Settles O12: the window gives the class, the class the row, and the row starts its collector. -/
theorem sircAndNecLeadsStartTheirCollectors : Obligations.SircAndNecLeadsStartTheirCollectors := by
  intro s w wf idle
  have apart := leadsDisjoint_of_wf wf
  constructor
  · intro lead
    exact pulseEffect_of_selectedRow rfl (selectedRow_idle idle (leadClass_of_sircLead apart lead))
      (startCollector_pulseBegin .sircCollect 0 0 s)
  · intro lead
    exact pulseEffect_of_selectedRow rfl (selectedRow_idle idle (leadClass_of_necLead apart lead))
      (startCollector_pulseBegin .necCollect 0 0 s)

/-- Settles O15: the row of noise aborts, and in `Idle` the abort only arms the supervisor. -/
theorem noiseInIdleOnlyArmsTheSupervisor : Obligations.NoiseInIdleOnlyArmsTheSupervisor := by
  intro s w idle noise
  have aborts : PulseEffect .pulseIdleLNoise w s (afterAbort s.prod) { outcome := .noiseAbort } :=
    pulseEffect_of_selectedRow rfl (selectedRow_idle idle (leadClass_of_inNone noise)) (abort_pulseBegin s)
  refine ⟨aborts, fun acc idx => ?_⟩
  rw [← afterAbort_of_idle idle acc idx]
  exact aborts

end Sys2Proof.Proofs
end

section
/-! PROOFS. `HSNAP` by cases (47_host_classifier.md R206): a press, a sustain and a release as host effects, what each of them does
for a key of one class (R207 to R216), and the statements about the classes `Repeat`, `Power` and `Generic`. -/

namespace Sys2Proof.Proofs

open Sys2Proof Sys2Proof.Machine Sys2Proof.Claims

/-! ## The transitions by key class (47_host_classifier.md R207 to R216) -/

section Transitions

variable {now : Time} {k : Keycode} {cmd : String} {s : State}

theorem press_of_repeat (cls : keyClass s.params k = .repeatKey) :
    press now k cmd s = (s.act (.cmd cmd)).setCls { s.cls with
      lastKc := some k
      tPress := now
      ramp := s.params.rampInit
      tFire := now } := by
  simp only [press, cls]
  rfl

theorem press_of_power (cls : keyClass s.params k = .powerKey) :
    press now k cmd s = s.setCls { s.cls with lastKc := some k, tPress := now } := by
  simp only [press, cls]

theorem press_of_generic (cls : keyClass s.params k = .genericKey) :
    press now k cmd s = (s.setCls { s.cls with lastKc := some k, tPress := now }).act (.cmd cmd) := by
  simp only [press, cls, pressGeneric]

/-- Only a `Repeat` key acts while it stays down. -/
theorem sustain_of_not_repeat (cls : keyClass s.params k ≠ .repeatKey) : sustain now k cmd s = s := by
  cases other : keyClass s.params k with
  | repeatKey => exact absurd other cls
  | powerKey | digitKey d | genericKey => simp only [sustain, other]

theorem release_of_power (cls : keyClass s.params k = .powerKey) :
    release now k s =
      releasePower (elapsed now s.cls.tPress) (s.setCls { s.cls with lastKc := none, tRelease := now }) := by
  simp only [release, cls]

theorem release_of_generic (cls : keyClass s.params k = .genericKey) :
    release now k s = s.setCls { s.cls with lastKc := none, tRelease := now } := by
  simp only [release, cls]

end Transitions

/-- On ordered times the difference of R18 is exact, and no sum wraps. -/
theorem le_elapsed_iff {now t : Time} {span : Nat} (ordered : t.toNat ≤ now.toNat) :
    span ≤ elapsed now t ↔ t.toNat + span ≤ now.toNat := by
  rw [elapsed]
  omega

/-! ## The cases of `HSNAP` (47_host_classifier.md R206) -/

section Snapshots

variable {s : State} {now : Time} {snap : BitVec 64} {k : Keycode} {cmd : String} {c : Classifier} {acts : List Action}

theorem exec_hsnap_up (up : HostUp s) (clock : ClockOk now s) :
    exec (.hsnap now snap) s = .next (classify now (shown s snap) (s.begin.setClock (some now))) :=
  atTime_up (k := fun t => .next (classify now (shown s snap) t))
    ((hostFatal_none_iff _).mpr up) ((clockBack_eq_false_iff _ _).mpr clock)

/-- Case 2: a key where none was down. -/
theorem hostEffect_of_press (up : HostUp s) (clock : ClockOk now s)
    (noneDown : s.cls.lastKc = none) (key : shown s snap = some (k, cmd))
    (pressed : press now k cmd (s.begin.setClock (some now)) =
      { s with cls := c, hostClock := some now, outp := { out := acts } }) :
    HostEffect (.hsnap now snap) now s c acts := by
  rw [HostEffect, exec_hsnap_up up clock, key, ← pressed]
  simp only [classify, State.setClock_cls, State.begin_cls, noneDown]

/-- Case 3: the key that was down. -/
theorem hostEffect_of_sustain (up : HostUp s) (clock : ClockOk now s)
    (down : s.cls.lastKc = some k) (key : shown s snap = some (k, cmd))
    (sustained : sustain now k cmd (s.begin.setClock (some now)) =
      { s with cls := c, hostClock := some now, outp := { out := acts } }) :
    HostEffect (.hsnap now snap) now s c acts := by
  rw [HostEffect, exec_hsnap_up up clock, key, ← sustained]
  simp only [classify, State.setClock_cls, State.begin_cls, down, if_true]

/-- Case 5: no key where one was down. -/
theorem hostEffect_of_release (up : HostUp s) (clock : ClockOk now s)
    (down : s.cls.lastKc = some k) (noKey : shown s snap = none)
    (released : release now k (s.begin.setClock (some now)) =
      { s with cls := c, hostClock := some now, outp := { out := acts } }) :
    HostEffect (.hsnap now snap) now s c acts := by
  rw [HostEffect, exec_hsnap_up up clock, noKey, ← released]
  simp only [classify, State.setClock_cls, State.begin_cls, down]

/-- A held key that is not a `Repeat` key changes nothing but the last host time. -/
theorem hostEffect_held_of_not_repeat (up : HostUp s) (clock : ClockOk now s)
    (down : s.cls.lastKc = some k) (key : shown s snap = some (k, cmd)) (cls : keyClass s.params k ≠ .repeatKey) :
    HostEffect (.hsnap now snap) now s s.cls [] :=
  hostEffect_of_sustain up clock down key (sustain_of_not_repeat cls)

/-- R212: a `Power` key is released, and the hold decides on the shutdown. -/
theorem hostEffect_release_power (up : HostUp s) (clock : ClockOk now s)
    (down : s.cls.lastKc = some k) (noKey : shown s snap = none) (cls : keyClass s.params k = .powerKey)
    (ordered : s.cls.tPress.toNat ≤ now.toNat) :
    HostEffect (.hsnap now snap) now s { s.cls with lastKc := none, tRelease := now }
      (if s.cls.tPress.toNat + s.params.holdMs ≤ now.toNat then [.shutdown] else []) := by
  refine hostEffect_of_release up clock down noKey ?_
  rw [release_of_power (s := s.begin.setClock (some now)) cls]
  by_cases long : s.params.holdMs ≤ elapsed now s.cls.tPress
  · rw [if_pos ((le_elapsed_iff ordered).mp long)]
    exact releasePower_long _ _ long
  · rw [if_neg (mt (le_elapsed_iff ordered).mpr long)]
    exact releasePower_short _ _ (Nat.lt_of_not_le long)

end Snapshots

/-! ## The classes -/

/-- Settles O40: case 2 of `HSNAP` with the press of a `Repeat` key. -/
theorem repeatKeyFiresOnPress : Obligations.RepeatKeyFiresOnPress := by
  intro s now snap k cmd up clock noneDown key cls
  exact hostEffect_of_press up clock noneDown key (press_of_repeat cls)

/-- Settles O42: press, sustain and release of a `Power` key. -/
theorem powerKeyShutsDownOnLongRelease : Obligations.PowerKeyShutsDownOnLongRelease := by
  intro s now snap k cmd up clock cls
  refine ⟨fun noneDown key => ?press, fun down key => ?held, fun down noKey ordered => ?release⟩
  case press => exact hostEffect_of_press up clock noneDown key (press_of_power cls)
  case held => exact hostEffect_held_of_not_repeat up clock down key (by simp [cls])
  case release => exact hostEffect_release_power up clock down noKey cls ordered

/-- Settles O45: press, sustain and release of a `Generic` key. -/
theorem genericKeyFiresOncePerPress : Obligations.GenericKeyFiresOncePerPress := by
  intro s now snap k cmd up clock cls
  refine ⟨fun noneDown key => ?press, fun down key => ?held, fun down noKey => ?release⟩
  case press => exact hostEffect_of_press up clock noneDown key (press_of_generic cls)
  case held => exact hostEffect_held_of_not_repeat up clock down key (by simp [cls])
  case release => exact hostEffect_of_release up clock down noKey (release_of_generic cls)

end Sys2Proof.Proofs
end

section
/-! PROOFS. The event words (30_encoding.md): what the decoder reads from a word built from its fields, the decoder inverted, the
refused words, and what a step does with a pending word. -/

namespace Sys2Proof.Proofs

open Sys2Proof Sys2Proof.Machine

/-! ## Decoding a word built from its fields (R81 to R87) -/

/-- The field above the operand is zero, and the operand is the width. -/
theorem decode_wordPulse (w : Width) : decode (wordPulse w) = .instr (.pulse w) := by
  have zeros : (0#16 ++ w).extractLsb' 16 16 = 0#16 := extract_append_high 0#16 w
  have width : (0#16 ++ w).extractLsb' 0 16 = w := extract_append_low 0#16 w
  simp [wordPulse, wordP, decode, decodeP, ifZero, zeros, width]

/-- Settles O5: an event without an operand is one closed word; the others are read by their fields. -/
theorem decodeOfEncodeIsTheEvent : Obligations.DecodeOfEncodeIsTheEvent := by
  intro i
  cases i with
  | irto | rota | rotb | rotto | consume | read | prst | hrst => rfl
  | btnt level => cases level <;> rfl
  | btne id => simp [encode, wordP, decode, decodeP, Instr.event]
  | hsnap | htmr | hwaitto | hfault => simp [encode, wordH, decode, decodeH, ifZero, Instr.event]
  | _ => exact decode_wordPulse _

/-! ## The decoder inverted (R96, R97) -/

theorem ifZero_eq_instr_iff {ok : Bool} {i j : Instr} : ifZero ok i = .instr j ↔ ok = true ∧ i = j := by
  cases ok <;> simp [ifZero]

/-- A P-format word from its code and its operand. -/
theorem wordP_of_fields {b : BitVec 40} {op : BitVec 8} {arg : BitVec 32} (code : (pOp b).toNat = op.toNat)
    (operand : pArg b = arg) : wordP op arg = .p b := by
  rw [wordP, ← BitVec.eq_of_toNat_eq code, ← operand, wordP_fields]

/-- An H-format word from its code and its operands. -/
theorem wordH_of_fields {b : BitVec 136} {op : BitVec 8} {now : Time} {snap : BitVec 64}
    (code : (hOp b).toNat = op.toNat) (time : hNow b = now) (shot : hSnap b = snap) : wordH op now snap = .h b := by
  rw [wordH, ← BitVec.eq_of_toNat_eq code, ← time, ← shot, wordH_fields]

/-- An operand whose bits above the low `n` are zero is its low bits. -/
theorem zeros_append_low {m n : Nat} (x : BitVec (m + n)) (zeros : x.extractLsb' n m = 0#m) :
    0#m ++ x.extractLsb' 0 n = x := by
  rw [← zeros]
  exact append_extract x

/-- The level of a button tick is its one bit. -/
theorem level_operand {x : BitVec 32} (zeros : x.extractLsb' 1 31 = 0#31) :
    (if x.getLsbD 0 then 1#32 else 0#32) = x := by
  have low : x.extractLsb' 0 1 = BitVec.ofBool (x.getLsbD 0) := by ext j hj; simp [show j = 0 by omega]
  rw [← zeros_append_low (m := 31) (n := 1) x zeros, low]
  cases x.getLsbD 0 <;> rfl

theorem encode_of_decodeP {b : BitVec 40} {i : Instr} (read : decodeP b = .instr i) : encode i = .p b := by
  unfold decodeP at read
  split at read
  case h_1 code =>
    obtain ⟨zeros, rfl⟩ := ifZero_eq_instr_iff.mp read
    exact wordP_of_fields code (zeros_append_low (m := 16) (n := 16) _ (eq_of_beq zeros)).symm
  case h_6 code =>
    cases read
    exact wordP_of_fields code rfl
  case h_7 code =>
    obtain ⟨zeros, rfl⟩ := ifZero_eq_instr_iff.mp read
    exact wordP_of_fields code (level_operand (eq_of_beq zeros)).symm
  case h_11 => cases read
  case h_2 code | h_3 code | h_4 code | h_5 code | h_8 code | h_9 code | h_10 code =>
    obtain ⟨zeros, rfl⟩ := ifZero_eq_instr_iff.mp read
    exact wordP_of_fields code (eq_of_beq zeros)

theorem encode_of_decodeH {b : BitVec 136} {i : Instr} (read : decodeH b = .instr i) : encode i = .h b := by
  unfold decodeH at read
  split at read
  case h_1 code =>
    cases read
    exact wordH_of_fields code rfl rfl
  case h_3 code =>
    obtain ⟨zeros, rfl⟩ := ifZero_eq_instr_iff.mp read
    obtain ⟨noTime, noShot⟩ := Bool.and_eq_true_iff.mp zeros
    exact wordH_of_fields code (eq_of_beq noTime) (eq_of_beq noShot)
  case h_6 => cases read
  case h_2 code | h_4 code | h_5 code =>
    obtain ⟨zeros, rfl⟩ := ifZero_eq_instr_iff.mp read
    exact wordH_of_fields code rfl (eq_of_beq zeros)

/-- Settles O6: the decoder inverted on each port. -/
theorem encodeOfDecodeIsTheWord : Obligations.EncodeOfDecodeIsTheWord := by
  intro e i read
  cases e with
  | p b => exact encode_of_decodeP read
  | h b => exact encode_of_decodeH read

/-! ## One step (00_scope.md R12) -/

theorem step_of_pending {s : State} {e : EventWord} {rest : List EventWord} (pending : s.pending = e :: rest) :
    step s = deliver e (s.setPending rest) := by
  rw [step, pending]

/-- Settles O10: a step delivers the first word, and a word that decodes runs its instruction. -/
theorem stepRunsTheDecodedEvent : Obligations.StepRunsTheDecodedEvent := by
  intro s e rest i pending read
  rw [step_of_pending pending, deliver, read]
  rfl

theorem step_of_rejected {s : State} {e : EventWord} {rest : List EventWord} {why : DecodeError}
    (pending : s.pending = e :: rest) (rejected : decode e = .rejected why) : step s = .refused (refusalOf why) := by
  rw [step_of_pending pending, deliver, rejected]

/-! ## Refused words -/

theorem ifZero_nonzero {n : Nat} {x : BitVec n} {i : Instr} (nonzero : x ≠ 0) :
    ifZero (x == 0) i = .rejected .nonzeroMbz := by
  rw [ifZero, beq_eq_false_iff_ne.mpr nonzero]
  rfl

theorem decodeP_reserved {b : BitVec 40} (code : (pOp b).toNat = 0 ∨ 0x0A < (pOp b).toNat) :
    decodeP b = .rejected .reservedEvent := by
  unfold decodeP
  split
  case h_11 => rfl
  all_goals omega

theorem decodeH_reserved {b : BitVec 136} (code : (hOp b).toNat < 0x81 ∨ 0x85 < (hOp b).toNat) :
    decodeH b = .rejected .reservedEvent := by
  unfold decodeH
  split
  case h_6 => rfl
  all_goals omega

/-- `PULSE` with a bit above its width. -/
theorem decodeP_pulse_nonzero {b : BitVec 40} (code : (pOp b).toNat = 0x01) (nonzero : (pArg b).extractLsb' 16 16 ≠ 0) :
    decodeP b = .rejected .nonzeroMbz := by
  rw [decodeP, code]
  exact ifZero_nonzero nonzero

/-- `BTNT` with a bit above its level. -/
theorem decodeP_btnt_nonzero {b : BitVec 40} (code : (pOp b).toNat = 0x07) (nonzero : (pArg b).extractLsb' 1 31 ≠ 0) :
    decodeP b = .rejected .nonzeroMbz := by
  rw [decodeP, code]
  exact ifZero_nonzero nonzero

/-- An event of the producer port without an operand. -/
theorem decodeP_operand_nonzero {b : BitVec 40}
    (code : (pOp b).toNat ∈ [0x02, 0x03, 0x04, 0x05, 0x08, 0x09, 0x0A]) (nonzero : pArg b ≠ 0) :
    decodeP b = .rejected .nonzeroMbz := by
  simp only [List.mem_cons, List.not_mem_nil, or_false] at code
  rw [decodeP]
  rcases code with code | code | code | code | code | code | code <;>
    · rw [code]
      exact ifZero_nonzero nonzero

/-- An event of the host port that carries a time and no snapshot. -/
theorem decodeH_snap_nonzero {b : BitVec 136} (code : (hOp b).toNat ∈ [0x82, 0x84, 0x85]) (nonzero : hSnap b ≠ 0) :
    decodeH b = .rejected .nonzeroMbz := by
  simp only [List.mem_cons, List.not_mem_nil, or_false] at code
  rw [decodeH]
  rcases code with code | code | code <;>
    · rw [code]
      exact ifZero_nonzero nonzero

/-- `HRST` with a bit in its time or its snapshot. -/
theorem decodeH_hrst_nonzero {b : BitVec 136} (code : (hOp b).toNat = 0x83) (nonzero : b.extractLsb' 0 128 ≠ 0) :
    decodeH b = .rejected .nonzeroMbz := by
  have operands : (hNow b == 0 && hSnap b == 0) = false := by
    rw [Bool.eq_false_iff]
    intro zeros
    obtain ⟨noTime, noShot⟩ := Bool.and_eq_true_iff.mp zeros
    refine nonzero ((extract_split b 0 64 64).symm.trans ?_)
    rw [show b.extractLsb' (0 + 64) 64 = 0 from eq_of_beq noTime, show b.extractLsb' 0 64 = 0 from eq_of_beq noShot]
    rfl
  rw [decodeH, code]
  simp only [operands, ifZero]
  rfl

/-- A field of the operand is that field of the word. -/
theorem pArg_extract (b : BitVec 40) {start len : Nat} (inside : start + len ≤ 32) :
    (pArg b).extractLsb' start len = b.extractLsb' start len := by
  ext j hj
  simp [pArg, show start + j < 32 by omega]

/-- Settles O9: each way a word is refused, read on its fields. -/
theorem reservedWordsRefused : Obligations.ReservedWordsRefused := by
  intro s rest
  refine ⟨fun b pending => ⟨fun code => ?_, fun mbz => ?_⟩, fun b pending => ⟨fun code => ?_, fun mbz => ?_⟩⟩
  · exact step_of_rejected pending (decodeP_reserved code)
  · refine step_of_rejected pending (why := .nonzeroMbz) ?_
    rcases mbz with ⟨code, nonzero⟩ | ⟨code, nonzero⟩ | ⟨code, nonzero⟩
    · exact decodeP_pulse_nonzero code (by rwa [pArg_extract b (by decide)])
    · exact decodeP_btnt_nonzero code (by rwa [pArg_extract b (by decide)])
    · exact decodeP_operand_nonzero code nonzero
  · exact step_of_rejected pending (decodeH_reserved code)
  · refine step_of_rejected pending (why := .nonzeroMbz) ?_
    rcases mbz with ⟨code, nonzero⟩ | ⟨code, nonzero⟩
    · exact decodeH_snap_nonzero code nonzero
    · exact decodeH_hrst_nonzero code nonzero

/-! ## Words written out -/

/-- A number that is the encoding of an instruction is read as its event. -/
theorem decodeTableWord_of_encode {nbits w : Nat} {i : Instr} (word : tableWord nbits w = some (encode i)) :
    decodeTableWord nbits w = some i.event := by
  simp only [decodeTableWord, word, decodeOfEncodeIsTheEvent i]

/-- Settles O8: each number is the word of its event. -/
theorem sampleWordsDecode : Obligations.SampleWordsDecode := by
  refine ⟨decodeTableWord_of_encode (i := .pulse 6750) ?_, decodeTableWord_of_encode (i := .irto) ?_,
    decodeTableWord_of_encode (i := .btne 0x100) ?_, decodeTableWord_of_encode (i := .btnt true) ?_,
    decodeTableWord_of_encode (i := .read) ?_, decodeTableWord_of_encode (i := .hsnap 108 0xC82) ?_,
    decodeTableWord_of_encode (i := .htmr 2400) ?_⟩ <;> decide

end Sys2Proof.Proofs
end

section
/-! PROOFS. The producer events other than `PULSE` (44_emit_supervisor.md, 45_rotary_button_latch.md, 46_register_port.md,
70_reset_and_hazards.md), each said once as the producer and the outputs it ends with. -/

namespace Sys2Proof.Proofs

open Sys2Proof Sys2Proof.Machine Sys2Proof.Claims

/-! ## Reset -/

/-- Settles O1: the reset state is a closed term. -/
theorem resetValues : Obligations.ResetValues := by
  refine ⟨rfl, by decide, rfl, rfl, rfl, rfl, rfl⟩

/-- Settles O2: `PRST` writes the reset producer. -/
theorem prstResetsProducer : Obligations.PrstResetsProducer := fun _ => rfl

/-! ## Supervisor and latch -/

/-- Settles O27: `IRTO` by its arming. -/
theorem irtoReleasesTheScanChannel : Obligations.IrtoReleasesTheScanChannel := fun _ =>
  ⟨fun armed => congrArg Host.Outcome.next (if_pos armed),
   fun unarmed => congrArg Host.Outcome.next (if_neg (Bool.eq_false_iff.mp unarmed))⟩

/-- Settles O28: `ROTA` and `ROTB` have one effect each, `ROTTO` goes by its arming. -/
theorem rotaryLatchEffects : Obligations.RotaryLatchEffects := fun _ =>
  ⟨rfl, rfl, fun armed => congrArg Host.Outcome.next (if_pos armed),
   fun unarmed => congrArg Host.Outcome.next (if_neg (Bool.eq_false_iff.mp unarmed))⟩

/-- Settles O29: `BTNE` by the enable of its edge. -/
theorem buttonEdgeLatchesOrIsMasked : Obligations.ButtonEdgeLatchesOrIsMasked := fun _ _ =>
  ⟨fun enabled => congrArg Host.Outcome.next (if_pos enabled),
   fun masked => congrArg Host.Outcome.next (if_neg (Bool.eq_false_iff.mp masked))⟩

/-- Settles O30: `BTNT` by its timer and the level it reads. -/
theorem buttonTickCountsReleasesOrIsIgnored : Obligations.ButtonTickCountsReleasesOrIsIgnored := fun _ =>
  ⟨fun running => congrArg Host.Outcome.next (if_pos running),
   fun running => congrArg Host.Outcome.next (if_pos running),
   fun stopped _ => congrArg Host.Outcome.next (if_neg (Bool.eq_false_iff.mp stopped))⟩

/-! ## Register port -/

/-- Settles O31. -/
theorem consumeClearsActiveOnly : Obligations.ConsumeClearsActiveOnly := fun _ => rfl

@[simp] theorem bit_getElem_zero (b : Bool) : (bit b)[0] = b := by cases b <;> rfl

theorem statusByte_cnt (p : Producer) : (statusByte p).extractLsb' 0 5 = p.cnt := extract_append_low _ p.cnt

theorem statusByte_dirA (p : Producer) : (statusByte p).getLsbD 5 = p.dirA := by
  simp only [statusByte, BitVec.getLsbD_append]
  simp

theorem statusByte_dirB (p : Producer) : (statusByte p).getLsbD 6 = p.dirB := by
  simp only [statusByte, BitVec.getLsbD_append]
  simp

theorem statusByte_active (p : Producer) : (statusByte p).getLsbD 7 = p.active := by
  simp only [statusByte, BitVec.getLsbD_append]
  simp

/-- Settles O32: the equation of `READ`, and the fields of the status byte. -/
theorem readReturnsTheRegisterImage : Obligations.ReadReturnsTheRegisterImage := fun s =>
  ⟨statusByte s.prod, execRead_eq s, statusByte_cnt s.prod, statusByte_dirA s.prod, statusByte_dirB s.prod,
    statusByte_active s.prod⟩

end Sys2Proof.Proofs
end

section
/-! PROOFS. The host events (47_host_classifier.md sections 1 and 5, 60_exceptions.md): when each of them runs and what it then
answers, the transitions of `HSNAP` by key class, when an event stops, and the statements about the events other than `HSNAP`. -/

namespace Sys2Proof.Proofs

open Sys2Proof Sys2Proof.Machine Sys2Proof.Claims

/-! ## The host side and its clock (R201, R234, R235) -/

section Gates

variable {now : Time} {s : State} {k : State → Result}

theorem onHost_hostUp (up : HostUp s) : onHost s k = k s.begin := onHost_up ((hostFatal_none_iff _).mpr up)

theorem onHost_fatal {f : Fault} (fatal : hostFatal s.params = some f) : onHost s k = .fault f := by
  rw [onHost, fatal]

theorem atTime_fatal {f : Fault} (fatal : hostFatal s.params = some f) : atTime now s k = .fault f := onHost_fatal fatal

theorem atTime_hostUp (up : HostUp s) (clock : ClockOk now s) : atTime now s k = k (s.begin.setClock (some now)) :=
  atTime_up ((hostFatal_none_iff _).mpr up) ((clockBack_eq_false_iff _ _).mpr clock)

theorem onHost_ran {t : State} (ran : onHost s k = .next t) : HostUp s ∧ k s.begin = .next t := by
  obtain ⟨fatal, body⟩ := onHost_next ran
  exact ⟨(hostFatal_none_iff _).mp fatal, body⟩

theorem atTime_ran {t : State} (ran : atTime now s k = .next t) :
    HostUp s ∧ ClockOk now s ∧ k (s.begin.setClock (some now)) = .next t := by
  obtain ⟨fatal, back, body⟩ := atTime_next ran
  exact ⟨(hostFatal_none_iff _).mp fatal, (clockBack_eq_false_iff _ _).mp back, body⟩

theorem atTime_back {last : Time} (up : HostUp s) (clock : s.hostClock = some last) (back : now.toNat < last.toNat) :
    atTime now s k = .refused .clockWentBack := by
  rw [atTime, onHost_hostUp up, clock, clockBack, decide_eq_true back]
  rfl

end Gates

/-! ## Each event, forwards and inverted -/

section Events

variable {now : Time} {snap : BitVec 64} {s t : State}

theorem exec_hsnap : exec (.hsnap now snap) s = execHsnap now snap s := rfl
theorem exec_htmr : exec (.htmr now) s = execHtmr now s := rfl
theorem exec_hrst : exec .hrst s = execHrst s := rfl
theorem exec_hwaitto : exec (.hwaitto now) s = execHwaitto now s := rfl
theorem exec_hfault : exec (.hfault now) s = execHfault now s := rfl

theorem exec_hsnap_ran (ran : exec (.hsnap now snap) s = .next t) :
    HostUp s ∧ ClockOk now s ∧ t = classify now (shown s snap) (s.begin.setClock (some now)) := by
  rw [exec_hsnap] at ran
  obtain ⟨up, clock, body⟩ := atTime_ran ran
  cases body
  exact ⟨up, clock, rfl⟩

theorem exec_htmr_due (up : HostUp s) (clock : ClockOk now s) (due : timerDue now s.cls = true) :
    exec (.htmr now) s = .next (timerExpiry (s.begin.setClock (some now))) := by
  rw [exec_htmr, execHtmr, atTime_hostUp up clock, if_pos due]

theorem exec_htmr_notDue (up : HostUp s) (clock : ClockOk now s) (early : timerDue now s.cls = false) :
    exec (.htmr now) s = .refused .timerNotDue := by
  rw [exec_htmr, execHtmr, atTime_hostUp up clock, early]
  rfl

theorem exec_htmr_ran (ran : exec (.htmr now) s = .next t) :
    HostUp s ∧ ClockOk now s ∧ timerDue now s.cls = true ∧ t = timerExpiry (s.begin.setClock (some now)) := by
  rw [exec_htmr] at ran
  obtain ⟨up, clock, body⟩ := atTime_ran ran
  split at body
  next due =>
    cases body
    exact ⟨up, clock, due, rfl⟩
  next => cases body

theorem exec_hrst_up (up : HostUp s) :
    exec .hrst s = .next { s with cls := Classifier.reset s.params, hostClock := none, outp := {} } :=
  onHost_hostUp (k := fun t => .next ((t.setCls (Classifier.reset s.params)).setClock none)) up

theorem exec_hrst_ran (ran : exec .hrst s = .next t) :
    HostUp s ∧ t = { s with cls := Classifier.reset s.params, hostClock := none, outp := {} } := by
  rw [exec_hrst] at ran
  obtain ⟨up, body⟩ := onHost_ran ran
  cases body
  exact ⟨up, rfl⟩

theorem exec_hwaitto_up (up : HostUp s) (clock : ClockOk now s) :
    exec (.hwaitto now) s = .next { s with hostClock := some now, outp := {} } :=
  atTime_hostUp (k := fun t => .next t) up clock

theorem exec_hwaitto_ran (ran : exec (.hwaitto now) s = .next t) :
    HostUp s ∧ ClockOk now s ∧ t = { s with hostClock := some now, outp := {} } := by
  rw [exec_hwaitto] at ran
  obtain ⟨up, clock, body⟩ := atTime_ran ran
  cases body
  exact ⟨up, clock, rfl⟩

theorem exec_hfault_up (up : HostUp s) (clock : ClockOk now s) :
    exec (.hfault now) s = .next { s with hostClock := some now, outp := { outcome := .hostBusFault } } :=
  atTime_hostUp (k := fun t => .next (t.raise .hostBusFault)) up clock

theorem exec_hfault_ran (ran : exec (.hfault now) s = .next t) :
    HostUp s ∧ ClockOk now s ∧ t = { s with hostClock := some now, outp := { outcome := .hostBusFault } } := by
  rw [exec_hfault] at ran
  obtain ⟨up, clock, body⟩ := atTime_ran ran
  cases body
  exact ⟨up, clock, rfl⟩

end Events

/-! ## The transitions by key class (R207, R209) -/

section Transitions

variable {now : Time} {k : Keycode} {cmd : String} {d : Fin 10} {s : State}

theorem press_of_digit (cls : keyClass s.params k = .digitKey d) :
    press now k cmd s = s.setCls { s.cls with lastKc := some k, tPress := now } := by
  simp only [press, cls]

theorem release_of_repeat (cls : keyClass s.params k = .repeatKey) :
    release now k s = s.setCls { s.cls with lastKc := none, tRelease := now } := by
  simp only [release, cls]

theorem release_of_digit (cls : keyClass s.params k = .digitKey d) :
    release now k s =
      releaseDigit now d (elapsed now s.cls.tPress) (s.setCls { s.cls with lastKc := none, tRelease := now }) := by
  simp only [release, cls]

end Transitions

/-! ## Stops -/

theorem exec_hostPort_fatal {i : Instr} {s : State} {f : Fault} (port : i.onHostPort = true)
    (fatal : hostFatal s.params = some f) : exec i s = .fault f := by
  cases i with
  | hsnap => exact exec_hsnap.trans (atTime_fatal fatal)
  | htmr => exact exec_htmr.trans (atTime_fatal fatal)
  | hrst => exact exec_hrst.trans (onHost_fatal fatal)
  | hwaitto => exact exec_hwaitto.trans (atTime_fatal fatal)
  | hfault => exact exec_hfault.trans (atTime_fatal fatal)
  | _ => cases port

/-- Settles O4: the fatal condition that holds, table before timer. -/
theorem hostEventsFaultWithoutTableOrTimer : Obligations.HostEventsFaultWithoutTableOrTimer := by
  intro i s port
  refine ⟨fun noTable => ?_, fun tb table long => ?_, fun tb table short noTimer => ?_⟩ <;>
    refine exec_hostPort_fatal port ?_
  · rw [hostFatal, noTable]
  · simp only [hostFatal, table, if_pos long]
  · simp only [hostFatal, table, if_neg (Nat.not_lt.mpr short), noTimer, Bool.false_eq_true, if_false]

/-- Settles O36: all four events test the clock first. -/
theorem backwardClockRefused : Obligations.BackwardClockRefused := fun _ _ _ _ up clock back =>
  ⟨exec_hsnap.trans (atTime_back up clock back), exec_htmr.trans (atTime_back up clock back),
   exec_hwaitto.trans (atTime_back up clock back), exec_hfault.trans (atTime_back up clock back)⟩

/-! ## The events other than `HSNAP` -/

/-- Settles O3: the reset classifier. -/
theorem hrstResetsClassifier : Obligations.HrstResetsClassifier := fun s up =>
  ⟨Classifier.reset s.params, exec_hrst_up up, rfl, rfl, rfl, rfl, rfl⟩

/-- Settles O35. -/
theorem waitAndBusFaultChangeNothing : Obligations.WaitAndBusFaultChangeNothing := fun _ _ up clock =>
  ⟨exec_hwaitto_up up clock, exec_hfault_up up clock⟩

theorem timerDue_iff {now : Time} {c : Classifier} :
    timerDue now c = true ↔ ∃ t, c.deadline = some t ∧ t ≤ now.toNat := by
  cases armed : c.deadline <;> simp [timerDue, armed]

/-- Settles O34: due, with a run and without one; and not due. -/
theorem timerExpiryDispatchesTheRun : Obligations.TimerExpiryDispatchesTheRun := by
  intro s now up clock
  refine ⟨fun t armed reached => ?due, fun notDue => ?early⟩
  case due =>
    have due := timerDue_iff.mpr ⟨t, armed, reached⟩
    refine ⟨fun opened => ?_, fun closed => ?_⟩
    · rw [HostEffect, exec_htmr_due up clock due, timerExpiry, if_pos (by exact opened)]
      rfl
    · rw [HostEffect, exec_htmr_due up clock due, timerExpiry, if_neg (by simp [closed])]
      rfl
  case early =>
    refine exec_htmr_notDue up clock (Bool.eq_false_iff.mpr fun due => ?_)
    obtain ⟨t, armed, reached⟩ := timerDue_iff.mp due
    rcases notDue with unarmed | ⟨u, armed', early⟩
    · cases unarmed.symm.trans armed
    · cases armed'.symm.trans armed
      omega

end Sys2Proof.Proofs
end

section
/-! PROOFS. What any event can do to the producer and output (`EventEffect`), and the laws of the register that follow by cases
on it: the counter, `wake`, `BUS_IDLE`, the notifications and the writers. -/

namespace Sys2Proof.Proofs

open Sys2Proof Sys2Proof.Machine Sys2Proof.Claims

/-! ## `PULSE` -/

/-- What a `PULSE` ends in, whatever its row: an emission, or a move of the decoder that leaves the register (R119). -/
theorem rowAction_pulseBegin_cases (r : PulseRow) (s : State) :
    (∃ c l, rowAction r (pulseBegin s) =
      { s with prod := afterEmit s.params.cntMax (some c) { s.prod with irArmed := true }, outp := emitOutputs s l }) ∨
    (∃ d a x l, rowAction r (pulseBegin s) =
      { s with prod := { s.prod with irArmed := true, dstate := d, acc := a, idx := x }, outp := { outcome := l } }) := by
  have frame := rowAction_frame r (pulseBegin s)
  have outcome := rowAction_outcome r (pulseBegin s)
  generalize rowAction r (pulseBegin s) = t at frame outcome ⊢
  obtain ⟨⟨cnt, dirA, dirB, active, scan, btn, dstate, acc, idx, irArmed, rotArmed, btnIrqEn, btnRun, busIdle⟩,
    cls, params, ⟨notify, wake, ret, out, label⟩, hostClock, pending⟩ := t
  obtain ⟨rfl, rfl, rfl, rfl, rfl, rfl, rfl, rfl, rfl, rfl, rfl⟩ := frame
  rcases outcome with ⟨rfl, rfl, rfl, rfl, rfl, rfl, rfl, rfl, rfl, rfl⟩ | ⟨rfl, rfl, rfl, rfl, rfl, rfl, rfl, rfl⟩
  · exact .inl ⟨scan, label, rfl⟩
  · exact .inr ⟨dstate, acc, idx, label, rfl⟩

/-- In `Idle` no row writes `SCAN`: the repeat emits without a code (R115). -/
theorem scan_of_pulse_in_idle {w : Width} {s : State} (idle : s.prod.dstate = .idle) :
    (rowAction (selectedRow w s) (pulseBegin s)).prod.scan = s.prod.scan := by
  rw [selectedRow_idle idle rfl]
  cases leadClass s.params w <;> rfl

/-! ## Every event -/

/-- What an event that answers a next state does to the producer, and its outputs: one constructor per effect. -/
inductive EventEffect (s : State) : Instr → Producer → Outputs → Prop
  | emits {i : Instr} {w : Width} (c : BitVec 24) (label : EventOutcome) (pulse : i.event = .pulse w)
      (idleKeeps : s.prod.dstate = .idle → c = s.prod.scan) :
      EventEffect s i (afterEmit s.params.cntMax (some c) { s.prod with irArmed := true }) (emitOutputs s label)
  | collects {i : Instr} {w : Width} (d : DState) (acc : BitVec 32) (idx : BitVec 6) (label : EventOutcome)
      (pulse : i.event = .pulse w) :
      EventEffect s i { s.prod with irArmed := true, dstate := d, acc := acc, idx := idx } { outcome := label }
  | scanReleased (armed : s.prod.irArmed = true) :
      EventEffect s .irto
        { s.prod with
          active := false, cnt := 0, scan := s.params.scanSentinel, dstate := .idle, acc := 0, idx := 0
          irArmed := false, busIdle := true } { notify := true }
  | irtoIgnored (unarmed : s.prod.irArmed = false) : EventEffect s .irto s.prod {}
  | rotA :
      EventEffect s .rota
        { s.prod with dirA := true, dirB := false, active := true, rotArmed := true, busIdle := true } { notify := true }
  | rotB :
      EventEffect s .rotb
        { s.prod with dirA := false, dirB := true, active := true, rotArmed := true, busIdle := true } { notify := true }
  | rotReleased (armed : s.prod.rotArmed = true) :
      EventEffect s .rotto
        { s.prod with dirA := false, dirB := false, active := false, rotArmed := false, busIdle := true }
        { notify := true }
  | rottoIgnored (unarmed : s.prod.rotArmed = false) : EventEffect s .rotto s.prod {}
  | edgeLatched (id : BitVec 32) (enabled : s.prod.btnIrqEn = true) :
      EventEffect s (.btne id)
        { s.prod with btn := id ||| 1, active := true, btnIrqEn := false, btnRun := true, busIdle := true }
        { notify := true }
  | edgeMasked (id : BitVec 32) (masked : s.prod.btnIrqEn = false) : EventEffect s (.btne id) s.prod {}
  | tickHeld (running : s.prod.btnRun = true) :
      EventEffect s (.btnt true)
        { s.prod with
          cnt := if s.prod.cnt.toNat < s.params.cntMax.toNat then s.prod.cnt + 1 else s.prod.cnt
          active := true
          busIdle := true } (emitOutputs s .ok)
  | tickReleased (running : s.prod.btnRun = true) :
      EventEffect s (.btnt false)
        { s.prod with
          btnRun := false, btnIrqEn := true, btn := s.params.btnSentinel, active := false, cnt := 0, busIdle := true }
        { notify := true }
  | tickIgnored (level : Bool) (stopped : s.prod.btnRun = false) : EventEffect s (.btnt level) s.prod {}
  | consumed : EventEffect s .consume { s.prod with active := false } {}
  | wasRead : EventEffect s .read { s.prod with busIdle := false } { ret := some (regImage s.prod) }
  | wasReset : EventEffect s .prst (Producer.reset s.params) {}
  | onHostPort {i : Instr} {o : Outputs} (port : i.onHostPort = true) (quiet : o.notify = false) (asleep : o.wake = false) :
      EventEffect s i s.prod o

theorem eventEffect_of_pulse {i : Instr} {w : Width} {s t : State} (pulse : i.event = .pulse w)
    (ran : execPulse w s = .next t) : EventEffect s i t.prod t.outp := by
  cases ran
  have idleKeeps := scan_of_pulse_in_idle (w := w) (s := s)
  rcases rowAction_pulseBegin_cases (selectedRow w s) s with ⟨c, label, row⟩ | ⟨d, acc, idx, label, row⟩
  · rw [row] at idleKeeps ⊢
    exact .emits c label pulse idleKeeps
  · rw [row]
    exact .collects d acc idx label pulse

/-- The classifier raises neither pulse. -/
theorem quiet_of_hostFrame {s t : State} (frame : HostFrame s t) (quiet : s.outp.notify = false ∧ s.outp.wake = false) :
    t.outp.notify = false ∧ t.outp.wake = false := by
  have outp := frame.outp
  simp only [Outputs.mk.injEq] at outp
  obtain ⟨notify, wake, -⟩ := outp
  rwa [notify, wake]

/-- No event of the host port raises a pulse (46_register_port.md R194, R195). -/
theorem exec_hostPort_quiet {i : Instr} {s t : State} (port : i.onHostPort = true) (ran : exec i s = .next t) :
    t.outp.notify = false ∧ t.outp.wake = false := by
  cases i with
  | hsnap =>
    obtain ⟨-, -, rfl⟩ := exec_hsnap_ran ran
    exact quiet_of_hostFrame (classify_frame _ _ _) ⟨rfl, rfl⟩
  | htmr =>
    obtain ⟨-, -, -, rfl⟩ := exec_htmr_ran ran
    exact quiet_of_hostFrame (timerExpiry_frame _) ⟨rfl, rfl⟩
  | hrst =>
    obtain ⟨-, rfl⟩ := exec_hrst_ran ran
    exact ⟨rfl, rfl⟩
  | hwaitto =>
    obtain ⟨-, -, rfl⟩ := exec_hwaitto_ran ran
    exact ⟨rfl, rfl⟩
  | hfault =>
    obtain ⟨-, -, rfl⟩ := exec_hfault_ran ran
    exact ⟨rfl, rfl⟩
  | _ => cases port

/-- A producer event with this effect. -/
theorem eventEffect_of_producerEffect {i : Instr} {s t : State} {p : Producer} {o : Outputs}
    (effect : ProducerEffect i s p o) (ran : exec i s = .next t) (eventEffect : EventEffect s i p o) :
    EventEffect s i t.prod t.outp := by
  cases effect.symm.trans ran
  exact eventEffect

/-- Every event that answers a next state has one of the effects. -/
theorem exec_effect {i : Instr} {s t : State} (ran : exec i s = .next t) : EventEffect s i t.prod t.outp := by
  cases i with
  | irto =>
    obtain ⟨armed, unarmed⟩ := irtoReleasesTheScanChannel s
    cases h : s.prod.irArmed with
    | true => exact eventEffect_of_producerEffect (armed h) ran (.scanReleased h)
    | false => exact eventEffect_of_producerEffect (unarmed h) ran (.irtoIgnored h)
  | rota => exact eventEffect_of_producerEffect rfl ran .rotA
  | rotb => exact eventEffect_of_producerEffect rfl ran .rotB
  | rotto =>
    obtain ⟨-, -, armed, unarmed⟩ := rotaryLatchEffects s
    cases h : s.prod.rotArmed with
    | true => exact eventEffect_of_producerEffect (armed h) ran (.rotReleased h)
    | false => exact eventEffect_of_producerEffect (unarmed h) ran (.rottoIgnored h)
  | btne id =>
    obtain ⟨enabled, masked⟩ := buttonEdgeLatchesOrIsMasked s id
    cases h : s.prod.btnIrqEn with
    | true => exact eventEffect_of_producerEffect (enabled h) ran (.edgeLatched id h)
    | false => exact eventEffect_of_producerEffect (masked h) ran (.edgeMasked id h)
  | btnt level =>
    obtain ⟨held, released, stopped⟩ := buttonTickCountsReleasesOrIsIgnored s
    cases h : s.prod.btnRun with
    | false => exact eventEffect_of_producerEffect (stopped h level) ran (.tickIgnored level h)
    | true =>
      cases level with
      | true => exact eventEffect_of_producerEffect (held h) ran (.tickHeld h)
      | false => exact eventEffect_of_producerEffect (released h) ran (.tickReleased h)
  | consume => exact eventEffect_of_producerEffect (consumeClearsActiveOnly s) ran .consumed
  | read => exact eventEffect_of_producerEffect (execRead_eq s) ran .wasRead
  | prst => exact eventEffect_of_producerEffect (prstResetsProducer s) ran .wasReset
  | hsnap | htmr | hrst | hwaitto | hfault =>
    rw [(exec_hostPort_frame rfl ran).prod]
    obtain ⟨quiet, asleep⟩ := exec_hostPort_quiet rfl ran
    exact .onHostPort rfl quiet asleep
  | _ => exact eventEffect_of_pulse rfl ((exec_event _ s).trans ran)

/-! ## The laws of the register -/

/-- Settles O53: the frames of the two ports. -/
theorem configurationIsImmutable : Obligations.ConfigurationIsImmutable := by
  intro i s t ran
  cases port : i.onHostPort with
  | true =>
    have frame := exec_hostPort_frame port ran
    exact ⟨frame.params, frame.pending⟩
  | false =>
    have frame := exec_producerPort_frame port ran
    exact ⟨frame.params, frame.pending⟩

/-- Settles O55: of the effects only an emission and a held tick raise `wake`, both by the wake condition. -/
theorem wakeOnlySaturatedAndUnread : Obligations.WakeOnlySaturatedAndUnread := by
  intro i s t ran wake
  have effect := exec_effect ran
  generalize t.prod = p, t.outp = o at effect wake ⊢
  cases effect with
  | emits c label pulse =>
    obtain ⟨atMax, idle⟩ := (wakeCondition_iff _ _).mp wake
    exact ⟨atMax, idle, rfl, .inl ⟨_, pulse⟩⟩
  | tickHeld =>
    obtain ⟨atMax, idle⟩ := (wakeCondition_iff _ _).mp wake
    exact ⟨atMax, idle, rfl, .inr rfl⟩
  | onHostPort _ _ asleep => cases asleep.symm.trans wake
  | _ => cases wake

/-- Settles O56: each effect with its `notify`. -/
theorem busIdleFollowsNotifyAndRead : Obligations.BusIdleFollowsNotifyAndRead := by
  intro i s t ran
  have effect := exec_effect ran
  generalize t.prod = p, t.outp = o at effect ⊢
  cases effect with
  | collects _ _ _ _ pulse =>
    have notPrst : i ≠ .prst := by rintro rfl; cases pulse
    have notRead : i ≠ .read := by rintro rfl; cases pulse
    simp [notPrst, notRead]
  | onHostPort port quiet =>
    have notPrst : i ≠ .prst := by rintro rfl; cases port
    have notRead : i ≠ .read := by rintro rfl; cases port
    simp [quiet, notPrst, notRead]
  | emits => simp [emitOutputs, afterEmit]
  | tickHeld => simp [emitOutputs]
  | wasReset => simp [Producer.reset]
  | _ => simp

/-- Settles O57: an effect without `notify` leaves the six elements of the image, but for `CONSUME` and `PRST`. -/
theorem registerChangesAreNotified : Obligations.RegisterChangesAreNotified := by
  intro i s t ran notConsume notPrst silent
  have effect := exec_effect ran
  generalize t.prod = p, t.outp = o at effect silent ⊢
  cases effect with
  | collects | wasRead => exact regImage_congr rfl rfl rfl rfl rfl rfl
  | irtoIgnored | rottoIgnored | edgeMasked | tickIgnored | onHostPort => rfl
  | consumed => exact absurd rfl notConsume
  | wasReset => exact absurd rfl notPrst
  | _ => cases silent

/-- Settles O58: each writer is the event of an effect that writes. -/
theorem onlyNamedEventsWrite : Obligations.OnlyNamedEventsWrite := by
  intro i s t ran
  have effect := exec_effect ran
  generalize t.prod = p, t.outp = o at effect ⊢
  cases effect with
  | emits c label pulse idleKeeps =>
    have notIdle (scan : c ≠ s.prod.scan) : s.prod.dstate ≠ .idle := fun idle => scan (idleKeeps idle)
    exact ⟨fun scan => .inl ⟨⟨_, pulse⟩, notIdle scan, rfl⟩, fun btn => absurd rfl btn, fun _ => .inl ⟨_, pulse⟩,
      fun _ cleared => by cases cleared⟩
  | collects d acc idx label pulse =>
    exact ⟨fun scan => absurd rfl scan, fun btn => absurd rfl btn, fun _ => .inl ⟨_, pulse⟩,
      fun set cleared => by cases set.symm.trans cleared⟩
  | wasReset => simp [Producer.reset]
  | _ => simp +contextual

/-- The two ways `CNT` can move up or stay, at every maximum. -/
theorem satInc_stays_or_counts (m c : BitVec 5) (n : Bool) (counted : n = true) :
    (satInc m c = c ∨ (c.toNat < m.toNat ∧ (satInc m c).toNat = c.toNat + 1 ∧ n = true)) ∧
    (c = m → satInc m c = m) := by
  rcases satInc_cases m c with ⟨below, up⟩ | ⟨above, stays⟩
  · exact ⟨.inr ⟨below, up, counted⟩, fun atMax => absurd below (by simp [atMax])⟩
  · exact ⟨.inl stays, fun atMax => stays.trans atMax⟩

/-- Settles O54: only an emission and a held tick count, by the one law. -/
theorem counterNeverWraps : Obligations.CounterNeverWraps := by
  intro i s t ran
  have effect := exec_effect ran
  generalize t.prod = p, t.outp = o at effect ⊢
  cases effect with
  | emits c label pulse =>
    refine ⟨fun _ => rfl, ?_, fun _ _ _ => satInc_stays_or_counts _ _ _ rfl⟩
    rintro (rfl | rfl | rfl) <;> cases pulse
  | tickHeld running => exact ⟨fun _ => rfl, by simp, fun _ _ _ => satInc_stays_or_counts _ _ _ rfl⟩
  | collects d acc idx label pulse =>
    refine ⟨?_, fun _ => .inl rfl, fun _ _ _ => ⟨.inl rfl, id⟩⟩
    rintro (⟨-, notified⟩ | ⟨rfl, -⟩)
    · cases notified
    · cases pulse
  | onHostPort port quiet =>
    refine ⟨?_, fun _ => .inl rfl, fun _ _ _ => ⟨.inl rfl, id⟩⟩
    rintro (⟨-, notified⟩ | ⟨rfl, -⟩)
    · cases quiet.symm.trans notified
    · cases port
  | tickIgnored level stopped => simp [stopped, Instr.event]
  | wasReset => simp [Producer.reset, Instr.event]
  | _ => simp [Instr.event]

/-- Settles O24: the two effects of a `PULSE`, and the frame of its port. -/
theorem pulseLiberties : Obligations.PulseLiberties := by
  intro s w
  have ran := exec_pulse w s
  refine ⟨_, ran, ?_⟩
  have effect := exec_effect ran
  obtain ⟨cls, hostClock, params, pending⟩ := exec_producerPort_frame rfl ran
  generalize rowAction (selectedRow w s) (pulseBegin s) = t at effect cls hostClock params pending ⊢
  have frame : t.cls = s.cls ∧ t.hostClock = s.hostClock ∧ t.params = s.params ∧ t.pending = s.pending :=
    ⟨cls, hostClock, params, pending⟩
  generalize t.prod = p, t.outp = o at effect ⊢
  cases effect with
  | emits =>
    exact ⟨rfl, fun silent => (by cases silent), fun _ => rfl, le_satInc _ _, rfl, rfl, rfl, rfl, rfl, rfl, frame⟩
  | collects =>
    exact ⟨rfl, fun _ => regImage_congr rfl rfl rfl rfl rfl rfl, id, Nat.le_refl _, rfl, rfl, rfl, rfl, rfl, rfl, frame⟩
  | onHostPort port => cases port

end Sys2Proof.Proofs
end

section
/-! PROOFS. The invariant of the whole machine (`Good`): each of its parts is kept by the events of its own agent, and by those of
the other agent because they leave its state alone. -/

namespace Sys2Proof.Proofs

open Sys2Proof Sys2Proof.Machine Sys2Proof.Claims

/-! ## What legal parameters give -/

theorem frameBits_of_wf {p : Params} (wf : p.wf = true) :
    1 ≤ p.necBits ∧ p.necBits ≤ 32 ∧ 3 ≤ p.rc5Bits ∧ p.rc5Bits ≤ 32 := by
  simp only [Params.wf, Params.frameBitsLegal, Bool.and_eq_true, decide_eq_true_eq] at wf
  omega

theorem sircBits_of_wf {p : Params} (wf : p.wf = true) : 1 ≤ p.sircBits ∧ p.sircBits ≤ 20 := by
  simp only [Params.wf, Params.sircBitsLegal, Bool.and_eq_true, Bool.or_eq_true, beq_iff_eq] at wf
  omega

theorem runMax_of_wf {p : Params} (wf : p.wf = true) : 1 ≤ p.runMax := by
  simp only [Params.wf, Params.runMaxLegal, Bool.and_eq_true, decide_eq_true_eq] at wf
  omega

theorem ramp_of_wf {p : Params} (wf : p.wf = true) : p.rampFloor ≤ p.rampInit ∧ p.rampNum ≤ p.rampDen := by
  simp only [Params.wf, Params.rampLegal, Bool.and_eq_true, decide_eq_true_eq] at wf
  omega

/-! ## The accumulator (00_scope.md R15) -/

theorem highClear_iff {acc : BitVec 32} {i : Nat} : highClear acc i ↔ ∀ j, i ≤ j → acc.getLsbD j = false := by
  constructor
  · intro small j above
    exact Nat.testBit_lt_two_pow (Nat.lt_of_lt_of_le small (Nat.pow_le_pow_right (by decide) above))
  · intro clear
    exact Nat.lt_pow_two_of_testBit _ clear

theorem highClear_placeBit {acc : BitVec 32} {i : Nat} (b : Bool) (clear : highClear acc i) :
    highClear (placeBit acc i b) (i + 1) := by
  rw [highClear_iff] at clear ⊢
  intro j above
  by_cases inside : j < 32
  · rw [placeBit_getLsbD acc i b j inside, if_neg (by omega), clear j (by omega)]
  · exact BitVec.getLsbD_of_ge _ _ (by omega)

theorem shiftBit_getLsbD (acc : BitVec 32) (b : Bool) {j : Nat} (inside : j < 32) :
    (shiftBit acc b).getLsbD j = if j = 0 then b else acc.getLsbD (j - 1) := by
  cases j with
  | zero => cases b <;> simp [shiftBit]
  | succ j => cases b <;> simp [shiftBit, BitVec.getLsbD_eq_getElem, inside, show j < 32 by omega]

theorem highClear_shiftBit {acc : BitVec 32} {i : Nat} (b : Bool) (clear : highClear acc i) :
    highClear (shiftBit acc b) (i + 1) := by
  rw [highClear_iff] at clear ⊢
  intro j above
  by_cases inside : j < 32
  · rw [shiftBit_getLsbD acc b inside, if_neg (by omega), clear _ (by omega)]
  · exact BitVec.getLsbD_of_ge _ _ (by omega)

/-! ## The decoder invariant (10_state.md R25) -/

/-- What the two RC5 states share: a started frame, with its bits and its two start bits. -/
def Rc5Frame (q : Params) (p : Producer) : Prop :=
  2 ≤ p.idx.toNat ∧ p.idx.toNat + 1 ≤ q.rc5Bits ∧ highClear p.acc p.idx.toNat ∧
    p.acc.getLsbD (p.idx.toNat - 1) = true ∧ p.acc.getLsbD (p.idx.toNat - 2) = true

theorem decoderInv_of_idle {q : Params} {p : Producer} (idle : p.dstate = .idle) (acc : p.acc = 0) (idx : p.idx = 0) :
    DecoderInv q p := by
  simp only [DecoderInv, idle]
  exact ⟨acc, idx⟩

theorem decoderInv_congr {q : Params} {p p' : Producer} (inv : DecoderInv q p) (dstate : p'.dstate = p.dstate)
    (acc : p'.acc = p.acc) (idx : p'.idx = p.idx) : DecoderInv q p' := by
  rw [DecoderInv, dstate, acc, idx]
  exact inv

theorem decoderInv_rc5Mid1 {q : Params} {p : Producer} (mid : p.dstate = .rc5Mid1) :
    DecoderInv q p ↔ Rc5Frame q p ∧ p.acc.getLsbD 0 = true := by
  simp only [DecoderInv, mid, Rc5Frame, and_assoc]

theorem decoderInv_rc5Start0 {q : Params} {p : Producer} (start : p.dstate = .rc5Start0) :
    DecoderInv q p ↔ Rc5Frame q p ∧ p.acc.getLsbD 0 = false := by
  simp only [DecoderInv, start, Rc5Frame, and_assoc]

theorem decoderInv_abort (s : State) : DecoderInv s.params (abort s).prod := decoderInv_of_idle rfl rfl rfl

theorem decoderInv_emit (q : Params) (c : Option (BitVec 24)) (s : State) : DecoderInv q (emit c s).prod := by
  rw [emit_eq]
  exact decoderInv_of_idle rfl rfl rfl

/-- A bit placed before the last of `n`: there is room for one more, and the bits above it are clear. -/
theorem placed_before_last {acc : BitVec 32} {idx : BitVec 6} {n : Nat} (b : Bool) (fits : n ≤ 32)
    (collecting : idx.toNat + 1 ≤ n ∧ highClear acc idx.toNat) (more : (idx + 1).toNat ≠ n) :
    (idx + 1).toNat + 1 ≤ n ∧ highClear (placeBit acc idx.toNat b) (idx + 1).toNat := by
  obtain ⟨room, clear⟩ := collecting
  have counted : (idx + 1).toNat = idx.toNat + 1 := idx_succ room (by omega)
  rw [counted] at more ⊢
  exact ⟨by omega, highClear_placeBit b clear⟩

theorem decoderInv_necBit (b : Bool) {s : State} (wf : s.params.wf = true) (collecting : s.prod.dstate = .necCollect)
    (inv : DecoderInv s.params s.prod) : DecoderInv s.params (necBit b s).prod := by
  simp only [DecoderInv, collecting] at inv
  obtain ⟨-, fits, -⟩ := frameBits_of_wf wf
  by_cases last : (s.prod.idx + 1).toNat = s.params.necBits
  · rw [necBit_done b s last]
    exact decoderInv_emit _ _ _
  · rw [necBit_more b s last]
    simp only [DecoderInv, necPlace, State.setProd_prod, collecting]
    exact placed_before_last b fits inv last

theorem decoderInv_sircBit (b : Bool) {s : State} (wf : s.params.wf = true) (collecting : s.prod.dstate = .sircCollect)
    (inv : DecoderInv s.params s.prod) : DecoderInv s.params (sircBit b s).prod := by
  simp only [DecoderInv, collecting] at inv
  obtain ⟨-, fits⟩ := sircBits_of_wf wf
  by_cases last : (s.prod.idx + 1).toNat = s.params.sircBits
  · rw [sircBit_done b s last]
    exact decoderInv_emit _ _ _
  · rw [sircBit_more b s last]
    simp only [DecoderInv, sircPlace, State.setProd_prod, collecting]
    exact placed_before_last b (by omega) inv last

/-- A bit shifted in before the last keeps the frame: the two start bits move up with the count. -/
theorem rc5Frame_shift (b : Bool) {s : State} (wf : s.params.wf = true) (frame : Rc5Frame s.params s.prod)
    (more : (s.prod.idx + 1).toNat ≠ s.params.rc5Bits) : Rc5Frame s.params (rc5Shift b s).prod := by
  obtain ⟨started, room, clear, first, second⟩ := frame
  have fits := frameBits_of_wf wf
  have counted : (s.prod.idx + 1).toNat = s.prod.idx.toNat + 1 := idx_succ room (by omega)
  simp only [Rc5Frame, rc5Shift, State.setProd_prod]
  rw [counted] at more ⊢
  refine ⟨by omega, by omega, highClear_shiftBit b clear, ?_, ?_⟩
  · rwa [shiftBit_getLsbD _ _ (by omega), if_neg (by omega), Nat.add_sub_cancel]
  · rwa [shiftBit_getLsbD _ _ (by omega), if_neg (by omega), show s.prod.idx.toNat + 1 - 2 - 1 = s.prod.idx.toNat - 2 by omega]

theorem rc5Shift_low (b : Bool) (s : State) : (rc5Shift b s).prod.acc.getLsbD 0 = b :=
  shiftBit_getLsbD s.prod.acc b (by decide)

/-- `RC5ACC`: the last bit emits; before it, what follows finds the frame kept and its low bit new. -/
theorem decoderInv_rc5Acc (b : Bool) {rest : State → State} {s : State} (wf : s.params.wf = true)
    (frame : Rc5Frame s.params s.prod)
    (next : ∀ t : State, t.params = s.params → Rc5Frame t.params t.prod → t.prod.acc.getLsbD 0 = b →
      DecoderInv t.params (rest t).prod) :
    DecoderInv s.params (rc5Acc b rest s).prod := by
  by_cases last : (s.prod.idx + 1).toNat = s.params.rc5Bits
  · rw [rc5Acc_done b rest s last]
    exact decoderInv_emit _ _ _
  · rw [rc5Acc_more b rest s last]
    exact next (rc5Shift b s) rfl (rc5Frame_shift b wf frame last) (rc5Shift_low b s)

theorem decoderInv_goto_mid1 {q : Params} {s : State} (frame : Rc5Frame q s.prod) (low : s.prod.acc.getLsbD 0 = true) :
    DecoderInv q (goto .rc5Mid1 s).prod :=
  (decoderInv_rc5Mid1 rfl).mpr ⟨frame, low⟩

theorem decoderInv_goto_start0 {q : Params} {s : State} (frame : Rc5Frame q s.prod) (low : s.prod.acc.getLsbD 0 = false) :
    DecoderInv q (goto .rc5Start0 s).prod :=
  (decoderInv_rc5Start0 rfl).mpr ⟨frame, low⟩

/-- R123: a 1. -/
theorem decoderInv_shift_one {s : State} (wf : s.params.wf = true) (frame : Rc5Frame s.params s.prod) :
    DecoderInv s.params (rc5Acc true (goto .rc5Mid1) s).prod :=
  decoderInv_rc5Acc true wf frame fun _ _ => decoderInv_goto_mid1

/-- R124, R126: a 0 with the edge at the start of a further 0. -/
theorem decoderInv_shift_zero {s : State} (wf : s.params.wf = true) (frame : Rc5Frame s.params s.prod) :
    DecoderInv s.params (rc5Acc false (goto .rc5Start0) s).prod :=
  decoderInv_rc5Acc false wf frame fun _ _ => decoderInv_goto_start0

/-- R125, R127: a 0, then a 1. -/
theorem decoderInv_shift_zero_one {s : State} (wf : s.params.wf = true) (frame : Rc5Frame s.params s.prod) :
    DecoderInv s.params (rc5Acc false (rc5Acc true (goto .rc5Mid1)) s).prod :=
  decoderInv_rc5Acc false wf frame fun _ params frame' _ => decoderInv_shift_one (params ▸ wf) frame'

/-- Every lead row starts a collection in order, or stays in `Idle`. -/
theorem decoderInv_leadRow (c : LeadClass) {s : State} (wf : s.params.wf = true) :
    DecoderInv s.params (rowAction (leadRow c) s).prod := by
  obtain ⟨necRoom, -, rc5Room, -⟩ := frameBits_of_wf wf
  obtain ⟨sircRoom, -⟩ := sircBits_of_wf wf
  have empty : highClear 0 0 := by rw [highClear]; decide
  have startBits : highClear 0b11 2 := by rw [highClear]; decide
  have first : (0b11 : BitVec 32).getLsbD 0 = true := by decide
  have second : (0b11 : BitVec 32).getLsbD 1 = true := by decide
  cases c with
  | rc5 => exact (decoderInv_rc5Mid1 rfl).mpr ⟨⟨Nat.le_refl 2, rc5Room, startBits, second, first⟩, first⟩
  | sirc => exact ⟨sircRoom, empty⟩
  | nec => exact ⟨necRoom, empty⟩
  | necr => exact decoderInv_emit _ none s
  | noise => exact decoderInv_abort s

/-- Every pulse keeps the decoder invariant, by the row that `DSTATE` and the class of the width select. -/
theorem decoderInv_pulse (w : Width) {s : State} (wf : s.params.wf = true) (inv : DecoderInv s.params s.prod) :
    DecoderInv s.params (rowAction (selectedRow w s) (pulseBegin s)).prod := by
  have begun : DecoderInv s.params (pulseBegin s).prod := decoderInv_congr inv rfl rfl rfl
  have aborts := decoderInv_abort (pulseBegin s)
  cases d : s.prod.dstate with
  | idle =>
    rw [selectedRow_idle d rfl]
    exact decoderInv_leadRow _ (s := pulseBegin s) wf
  | necCollect =>
    rw [selectedRow, d, pulseRow]
    cases necClass s.params w with
    | zero => exact decoderInv_necBit false (s := pulseBegin s) wf d begun
    | one => exact decoderInv_necBit true (s := pulseBegin s) wf d begun
    | out => exact aborts
  | sircCollect =>
    rw [selectedRow, d, pulseRow]
    cases sircClass s.params w with
    | zero => exact decoderInv_sircBit false (s := pulseBegin s) wf d begun
    | one => exact decoderInv_sircBit true (s := pulseBegin s) wf d begun
    | out => exact aborts
  | rc5Mid1 =>
    obtain ⟨frame, -⟩ := (decoderInv_rc5Mid1 (p := (pulseBegin s).prod) d).mp begun
    rw [selectedRow, d, pulseRow]
    cases rc5Class s.params w with
    | t1 => exact decoderInv_shift_one (s := pulseBegin s) wf frame
    | t15 => exact decoderInv_shift_zero (s := pulseBegin s) wf frame
    | t2 => exact decoderInv_shift_zero_one (s := pulseBegin s) wf frame
    | out => exact aborts
  | rc5Start0 =>
    obtain ⟨frame, -⟩ := (decoderInv_rc5Start0 (p := (pulseBegin s).prod) d).mp begun
    rw [selectedRow, d, pulseRow]
    cases rc5Class s.params w with
    | t1 => exact decoderInv_shift_zero (s := pulseBegin s) wf frame
    | t15 => exact decoderInv_shift_zero_one (s := pulseBegin s) wf frame
    | t2 => exact aborts
    | out => exact aborts
  | leadClassified | rc5Mid0 | reserved7 =>
    rw [selectedRow, d]
    exact aborts

/-- Every event keeps the decoder invariant: but for a pulse, it leaves the decoder alone or resets it. -/
theorem exec_decoderInv {i : Instr} {s t : State} (ran : exec i s = .next t) (wf : s.params.wf = true)
    (inv : DecoderInv s.params s.prod) : DecoderInv s.params t.prod := by
  have effect := exec_effect ran
  have ofPulse {w : Width} (pulse : i.event = .pulse w) : DecoderInv s.params t.prod := by
    rw [← exec_event, pulse, exec_pulse] at ran
    cases ran
    exact decoderInv_pulse w wf inv
  generalize t.prod = p, t.outp = o at effect ofPulse ⊢
  cases effect with
  | emits _ _ pulse => exact ofPulse pulse
  | collects _ _ _ _ pulse => exact ofPulse pulse
  | scanReleased | wasReset => exact decoderInv_of_idle rfl rfl rfl
  | _ => exact decoderInv_congr inv rfl rfl rfl

/-! ## The counter and the latch (00_scope.md R14, 45_rotary_button_latch.md R183) -/

/-- Every event keeps the counter at or below its maximum. -/
theorem exec_counterInv {i : Instr} {s t : State} (ran : exec i s = .next t) (inv : CounterInv s.params s.prod) :
    CounterInv s.params t.prod := by
  have effect := exec_effect ran
  generalize t.prod = p, t.outp = o at effect ⊢
  cases effect with
  | emits => exact satInc_le_max inv
  | tickHeld => exact satInc_le_max inv
  | scanReleased | tickReleased | wasReset => exact Nat.zero_le _
  | _ => exact inv

theorem latchInv_reset (p : Params) : LatchInv p (Producer.reset p) :=
  ⟨rfl, rfl, fun on => (by cases on), fun _ => rfl, fun _ => ⟨rfl, rfl⟩⟩

/-- Every event keeps the latch invariant. -/
theorem exec_latchInv {i : Instr} {s t : State} (ran : exec i s = .next t) (inv : LatchInv s.params s.prod) :
    LatchInv s.params t.prod := by
  have effect := exec_effect ran
  obtain ⟨oneDir, enables, pressed, released, resting⟩ := inv
  generalize t.prod = p, t.outp = o at effect ⊢
  cases effect with
  | rotA => exact ⟨rfl, enables, pressed, released, fun off => by cases off⟩
  | rotB => exact ⟨rfl, enables, pressed, released, fun off => by cases off⟩
  | rotReleased => exact ⟨rfl, enables, pressed, released, fun _ => ⟨rfl, rfl⟩⟩
  | edgeLatched id => exact ⟨oneDir, rfl, fun _ => by simp, fun off => (by cases off), resting⟩
  | tickReleased => exact ⟨oneDir, rfl, fun on => (by cases on), fun _ => rfl, resting⟩
  | wasReset => exact latchInv_reset s.params
  | _ => exact ⟨oneDir, enables, pressed, released, resting⟩

/-! ## The classifier (10_state.md R44, R45) -/

/-- The two invariants of the host agent. -/
def HostInv (p : Params) (c : Classifier) (clock : Option Time) : Prop :=
  ClassifierInv p c ∧ ClockInv p c clock

/-- Time that goes forward leaves every timestamp in the past. -/
theorem notAfter_now {t now : Time} {s : State} (clock : ClockOk now s) (past : notAfter t s.hostClock) :
    notAfter t (some now) := by
  cases last : s.hostClock with
  | none =>
    rw [last] at past
    exact past.elim
  | some u =>
    rw [last] at past
    exact Nat.le_trans past (clock u last)

theorem hostInv_forward {now : Time} {s : State} (clock : ClockOk now s) (inv : HostInv s.params s.cls s.hostClock) :
    HostInv s.params s.cls (some now) := by
  obtain ⟨classifier, pressed, fired, released⟩ := inv
  exact ⟨classifier, fun k down => notAfter_now clock (pressed k down),
    fun k down cls => notAfter_now clock (fired k down cls), fun opened => notAfter_now clock (released opened)⟩

theorem hostInv_reset {p : Params} (wf : p.wf = true) : HostInv p (Classifier.reset p) none := by
  obtain ⟨floor, -⟩ := ramp_of_wf wf
  exact ⟨⟨Nat.zero_le _, Nat.one_pos, fun opened => (by cases opened), floor, Nat.le_refl _⟩,
    fun _ down => (by cases down), fun _ down => (by cases down), fun opened => by cases opened⟩

section Transitions

variable {now : Time} {k : Keycode} {cmd : String} {s : State}

theorem hostInv_press (wf : s.params.wf = true) (inv : HostInv s.params s.cls (some now)) :
    HostInv s.params (press now k cmd s).cls (some now) := by
  obtain ⟨⟨room, digits, armed, floor, start⟩, -, -, released⟩ := inv
  obtain ⟨init, -⟩ := ramp_of_wf wf
  have pressedNow : ∀ j, some k = some j → notAfter now (some now) := fun _ _ => Nat.le_refl _
  cases cls : keyClass s.params k with
  | repeatKey =>
    rw [press_of_repeat cls]
    exact ⟨⟨room, digits, armed, init, Nat.le_refl _⟩, pressedNow, fun _ _ _ => Nat.le_refl _, released⟩
  | powerKey | digitKey d | genericKey =>
    have notRepeat : ∀ j, some k = some j → keyClass s.params j = .repeatKey → notAfter s.cls.tFire (some now) := by
      rintro j ⟨⟩ rep
      cases cls.symm.trans rep
    simp only [press, cls]
    exact ⟨⟨room, digits, armed, floor, start⟩, pressedNow, notRepeat, released⟩

theorem hostInv_sustain (wf : s.params.wf = true) (inv : HostInv s.params s.cls (some now)) :
    HostInv s.params (sustain now k cmd s).cls (some now) := by
  by_cases cls : keyClass s.params k = .repeatKey
  · simp only [sustain, cls]
    by_cases due : s.cls.ramp ≤ elapsed now s.cls.tFire
    · obtain ⟨⟨room, digits, armed, floor, start⟩, pressed, -, released⟩ := inv
      obtain ⟨-, factor⟩ := ramp_of_wf wf
      rw [sustainRepeat_due now cmd s due]
      exact ⟨⟨room, digits, armed, decay_ge_floor _ _, (decay_le _ _ factor floor).trans start⟩, pressed,
        fun _ _ _ => Nat.le_refl _, released⟩
    · rwa [sustainRepeat_early now cmd s (Nat.lt_of_not_le due)]
  · rwa [sustain_of_not_repeat cls]

theorem hostInv_digitLong (d : Fin 10) (inv : HostInv s.params s.cls (some now)) :
    HostInv s.params (digitLong d s).cls (some now) := by
  obtain ⟨⟨-, -, -, floor, start⟩, pressed, fired, -⟩ := inv
  exact ⟨⟨Nat.zero_le _, Nat.one_pos, fun opened => (by cases opened), floor, start⟩, pressed, fired,
    fun opened => by cases opened⟩

theorem hostInv_digitShort (d : Fin 10) (wf : s.params.wf = true) (inv : HostInv s.params s.cls (some now)) :
    HostInv s.params (digitShort now d s).cls (some now) := by
  obtain ⟨⟨-, digits, -, floor, start⟩, pressed, fired, -⟩ := inv
  cases appends : digitAppends now s with
  | true =>
    obtain ⟨-, below, -⟩ := (digitAppends_iff now s).mp appends
    have oneMore : s.cls.dacc * 10 + d.val < 10 ^ (s.cls.run + 1) := by
      rw [Nat.pow_succ]
      omega
    rw [digitShort_append now d s appends]
    exact ⟨⟨below, oneMore, fun _ => rfl, floor, start⟩, pressed, fired, fun _ => Nat.le_refl _⟩
  | false =>
    rw [digitShort_restart now d s appends]
    exact ⟨⟨runMax_of_wf wf, d.isLt, fun _ => rfl, floor, start⟩, pressed, fired, fun _ => Nat.le_refl _⟩

/-- With no key down, `T_PRESS` and `T_FIRE` are not readable. -/
theorem hostInv_keyUp (inv : HostInv s.params s.cls (some now)) :
    HostInv s.params { s.cls with lastKc := none, tRelease := now } (some now) := by
  obtain ⟨classifier, -, -, released⟩ := inv
  exact ⟨classifier, fun _ down => (by cases down), fun _ down => (by cases down), released⟩

theorem hostInv_release (wf : s.params.wf = true) (inv : HostInv s.params s.cls (some now)) :
    HostInv s.params (release now k s).cls (some now) := by
  have up := hostInv_keyUp inv
  cases cls : keyClass s.params k with
  | repeatKey =>
    rw [release_of_repeat cls]
    exact up
  | genericKey =>
    rw [release_of_generic cls]
    exact up
  | powerKey =>
    rw [release_of_power cls, releasePower]
    split <;> exact up
  | digitKey d =>
    rw [release_of_digit cls, releaseDigit]
    split
    · exact hostInv_digitLong (s := s.setCls { s.cls with lastKc := none, tRelease := now }) d up
    · exact hostInv_digitShort (s := s.setCls { s.cls with lastKc := none, tRelease := now }) d wf up

/-- Every case of `HSNAP`. -/
theorem hostInv_classify (cur : Option (Keycode × String)) (wf : s.params.wf = true)
    (inv : HostInv s.params s.cls (some now)) : HostInv s.params (classify now cur s).cls (some now) := by
  unfold classify
  split
  next => exact inv
  next => exact hostInv_press wf inv
  next j _ _ _ =>
    split
    next => exact hostInv_sustain wf inv
    next =>
      have params := (release_frame now j s).params
      have released : HostInv s.params (release now j s).cls (some now) := hostInv_release wf inv
      rw [← params] at wf released ⊢
      exact hostInv_press wf released
  next => exact hostInv_release wf inv

/-- An expiry closes the run, and no run means no readable `T_LASTREL`. -/
theorem hostInv_timerExpiry (inv : HostInv s.params s.cls (some now)) :
    HostInv s.params (timerExpiry s).cls (some now) := by
  obtain ⟨⟨room, digits, armed, floor, start⟩, pressed, fired, released⟩ := inv
  rw [timerExpiry]
  split
  next => exact ⟨⟨Nat.zero_le _, Nat.one_pos, fun opened => (by cases opened), floor, start⟩, pressed, fired,
    fun opened => by cases opened⟩
  next closed => exact ⟨⟨room, digits, fun opened => absurd opened closed, floor, start⟩, pressed, fired, released⟩

end Transitions

/-- Every event of the host port keeps the host invariants. -/
theorem exec_hostInv {i : Instr} {s t : State} (port : i.onHostPort = true) (ran : exec i s = .next t)
    (wf : s.params.wf = true) (inv : HostInv s.params s.cls s.hostClock) : HostInv s.params t.cls t.hostClock := by
  cases i with
  | hsnap now =>
    obtain ⟨-, clock, rfl⟩ := exec_hsnap_ran ran
    have forward := hostInv_forward clock inv
    rw [(classify_frame _ _ _).hostClock]
    exact hostInv_classify (s := s.begin.setClock (some now)) _ wf forward
  | htmr now =>
    obtain ⟨-, clock, -, rfl⟩ := exec_htmr_ran ran
    have forward := hostInv_forward clock inv
    rw [(timerExpiry_frame _).hostClock]
    exact hostInv_timerExpiry (s := s.begin.setClock (some now)) forward
  | hrst =>
    obtain ⟨-, rfl⟩ := exec_hrst_ran ran
    exact hostInv_reset wf
  | hwaitto =>
    obtain ⟨-, clock, rfl⟩ := exec_hwaitto_ran ran
    exact hostInv_forward clock inv
  | hfault =>
    obtain ⟨-, clock, rfl⟩ := exec_hfault_ran ran
    exact hostInv_forward clock inv
  | _ => cases port

/-! ## The whole machine -/

/-- Settles O48: both agents at reset, with the default parameters. -/
theorem goodAtReset : Obligations.GoodAtReset := by
  have wf : Params.default.wf = true := by decide
  exact ⟨wf, decoderInv_of_idle rfl rfl rfl, latchInv_reset _, Nat.zero_le _, hostInv_reset wf⟩

/-- Every event keeps the invariant: each port that of its own agent, and the frame of the port that of the other. -/
theorem exec_good {i : Instr} {s t : State} (good : Good s) (ran : exec i s = .next t) : Good t := by
  obtain ⟨wf, decoder, latch, counter, host⟩ := good
  obtain ⟨params, -⟩ := configurationIsImmutable i s t ran
  rw [Good, params]
  refine ⟨wf, exec_decoderInv ran wf decoder, exec_latchInv ran latch, exec_counterInv ran counter, ?_⟩
  cases port : i.onHostPort with
  | true => exact exec_hostInv port ran wf host
  | false =>
    have frame := exec_producerPort_frame port ran
    rw [frame.cls, frame.hostClock]
    exact host

/-- Settles O49: a step waits, or runs one event on the state less its word. -/
theorem stepKeepsGood : Obligations.StepKeepsGood := by
  intro s t good stepped
  cases pending : s.pending with
  | nil =>
    rw [step, pending] at stepped
    cases stepped
    exact good
  | cons e rest =>
    rw [step_of_pending pending, deliver] at stepped
    cases decoded : decode e with
    | rejected why =>
      rw [decoded] at stepped
      cases stepped
    | instr i =>
      rw [decoded] at stepped
      exact exec_good (s := s.setPending rest) good stepped

end Sys2Proof.Proofs
end

section
/-! PROOFS. What an event does not read: a producer event nothing of the host agent, a host event nothing of the producer, and no
event a timestamp that has not been written (10_state.md sections 5 and 6). -/

namespace Sys2Proof.Proofs

open Sys2Proof Sys2Proof.Machine Sys2Proof.Claims

/-! ## A producer event in front of another host agent -/

/-- The state with another host agent. -/
def withHost (c : Classifier) (k : Option Time) (s : State) : State := { s with cls := c, hostClock := k }

section ProducerSide

variable (c : Classifier) (k : Option Time) (s : State)

theorem emit_withHost (code : Option (BitVec 24)) : emit code (withHost c k s) = withHost c k (emit code s) := by
  simp only [emit_eq, withHost]

/-- A frame with a good command half is emitted as it is validated (43_nec_collector.md R148). -/
theorem necComplete_ok {t : State} (ok : commandOk t.prod.acc = true) :
    necComplete t = emit (some (necValidate t.params t.prod.acc)) t := by
  rw [necComplete, necInvalidFrame, ok]
  rfl

/-- A frame with a bad command half is emitted with the outcome `ChecksumFail` (60_exceptions.md R232). -/
theorem necComplete_bad {t : State} (bad : commandOk t.prod.acc = false) :
    necComplete t = emit (some (necValidate t.params t.prod.acc)) (t.raise .checksumFail) := by
  rw [necComplete, necInvalidFrame, bad]
  rfl

theorem necBit_withHost (b : Bool) : necBit b (withHost c k s) = withHost c k (necBit b s) := by
  by_cases last : (s.prod.idx + 1).toNat = s.params.necBits
  · rw [necBit_done b s last, necBit_done b (withHost c k s) last]
    cases command : commandOk (necPlace b s).prod.acc with
    | true =>
      rw [necComplete_ok command, necComplete_ok (t := necPlace b (withHost c k s)) command]
      exact emit_withHost c k (necPlace b s) _
    | false =>
      rw [necComplete_bad command, necComplete_bad (t := necPlace b (withHost c k s)) command]
      exact emit_withHost c k ((necPlace b s).raise .checksumFail) _
  · rw [necBit_more b s last, necBit_more b (withHost c k s) last]
    rfl

theorem sircBit_withHost (b : Bool) : sircBit b (withHost c k s) = withHost c k (sircBit b s) := by
  by_cases last : (s.prod.idx + 1).toNat = s.params.sircBits
  · rw [sircBit_done b s last, sircBit_done b (withHost c k s) last]
    exact emit_withHost c k (sircPlace b s) _
  · rw [sircBit_more b s last, sircBit_more b (withHost c k s) last]
    rfl

theorem rc5Acc_withHost (b : Bool) {rest : State → State} (next : ∀ t, rest (withHost c k t) = withHost c k (rest t)) :
    rc5Acc b rest (withHost c k s) = withHost c k (rc5Acc b rest s) := by
  by_cases last : (s.prod.idx + 1).toNat = s.params.rc5Bits
  · rw [rc5Acc_done b rest s last, rc5Acc_done b rest (withHost c k s) last]
    exact emit_withHost c k (rc5Shift b s) _
  · rw [rc5Acc_more b rest s last, rc5Acc_more b rest (withHost c k s) last]
    exact next (rc5Shift b s)

theorem goto_withHost (d : DState) : goto d (withHost c k s) = withHost c k (goto d s) := rfl

/-- Every row of the transition table. -/
theorem rowAction_withHost (r : PulseRow) : rowAction r (withHost c k s) = withHost c k (rowAction r s) := by
  have one (b : Bool) (d : DState) (t : State) := rc5Acc_withHost c k t b (fun u => goto_withHost c k u d)
  have two (t : State) := rc5Acc_withHost c k t false (one true .rc5Mid1)
  cases r with
  | idleLNecr => exact emit_withHost c k s none
  | necCollectN0 => exact necBit_withHost c k s false
  | necCollectN1 => exact necBit_withHost c k s true
  | sircCollectS0 => exact sircBit_withHost c k s false
  | sircCollectS1 => exact sircBit_withHost c k s true
  | rc5Mid1T1 => exact one true .rc5Mid1 s
  | rc5Mid1T15 => exact one false .rc5Start0 s
  | rc5Mid1T2 => exact two s
  | rc5Start0T1 => exact one false .rc5Start0 s
  | rc5Start0T15 => exact two s
  | _ => rfl

/-- A producer event completes, and alike in front of every host agent. -/
theorem exec_withHost {i : Instr} (port : i.onHostPort = false) :
    ∃ t, exec i s = .next t ∧ exec i (withHost c k s) = .next (withHost c k t) := by
  rw [← exec_event i s, ← exec_event i (withHost c k s)]
  cases i with
  | irto =>
    obtain ⟨armed, unarmed⟩ := irtoReleasesTheScanChannel s
    obtain ⟨armed', unarmed'⟩ := irtoReleasesTheScanChannel (withHost c k s)
    cases h : s.prod.irArmed with
    | true => exact ⟨_, armed h, armed' h⟩
    | false => exact ⟨_, unarmed h, unarmed' h⟩
  | rota | rotb | consume | read | prst => exact ⟨_, rfl, rfl⟩
  | rotto =>
    obtain ⟨-, -, armed, unarmed⟩ := rotaryLatchEffects s
    obtain ⟨-, -, armed', unarmed'⟩ := rotaryLatchEffects (withHost c k s)
    cases h : s.prod.rotArmed with
    | true => exact ⟨_, armed h, armed' h⟩
    | false => exact ⟨_, unarmed h, unarmed' h⟩
  | btne id =>
    obtain ⟨enabled, masked⟩ := buttonEdgeLatchesOrIsMasked s id
    obtain ⟨enabled', masked'⟩ := buttonEdgeLatchesOrIsMasked (withHost c k s) id
    cases h : s.prod.btnIrqEn with
    | true => exact ⟨_, enabled h, enabled' h⟩
    | false => exact ⟨_, masked h, masked' h⟩
  | btnt level =>
    obtain ⟨held, released, stopped⟩ := buttonTickCountsReleasesOrIsIgnored s
    obtain ⟨held', released', stopped'⟩ := buttonTickCountsReleasesOrIsIgnored (withHost c k s)
    cases h : s.prod.btnRun with
    | false => exact ⟨_, stopped h level, stopped' h level⟩
    | true =>
      cases level with
      | true => exact ⟨_, held h, held' h⟩
      | false => exact ⟨_, released h, released' h⟩
  | hsnap | htmr | hrst | hwaitto | hfault => cases port
  | _ => exact ⟨_, exec_pulse _ s, congrArg Host.Outcome.next (rowAction_withHost c k (pulseBegin s) _)⟩

/-- With its frame, a producer event is a new producer and new outputs. -/
theorem exec_producerPort_local {i : Instr} (port : i.onHostPort = false) :
    ∃ q o, exec i s = .next { s with prod := q, outp := o } ∧
      exec i { s with cls := c, hostClock := k } = .next { s with prod := q, outp := o, cls := c, hostClock := k } := by
  obtain ⟨t, ran, ran'⟩ := exec_withHost c k s port
  obtain ⟨cls, hostClock, params, pending⟩ := exec_producerPort_frame port ran
  have eq : t = { s with prod := t.prod, outp := t.outp } := by
    rw [← cls, ← hostClock, ← params, ← pending]
  rw [eq] at ran ran'
  exact ⟨t.prod, t.outp, ran, ran'⟩

end ProducerSide

/-! ## A classifier event behind another producer and after other actions -/

/-- The state with another producer, and with actions produced before its own. -/
def around (p : Producer) (before : List Action) (s : State) : State :=
  { s with prod := p, outp := { s.outp with out := before ++ s.outp.out } }

section HostSide

variable (p : Producer) (before : List Action) (s : State) (now : Time) (key : Keycode) (cmd : String)

@[simp] theorem around_cls : (around p before s).cls = s.cls := rfl
@[simp] theorem around_params : (around p before s).params = s.params := rfl

@[simp] theorem act_around (a : Action) : (around p before s).act a = around p before (s.act a) := by
  simp [around, State.act, State.setOutp, List.append_assoc]

@[simp] theorem setCls_around (c : Classifier) : (around p before s).setCls c = around p before (s.setCls c) := rfl

theorem press_around : press now key cmd (around p before s) = around p before (press now key cmd s) := by
  cases cls : keyClass s.params key <;> simp [press, pressRepeat, pressGeneric, cls]

theorem sustain_around : sustain now key cmd (around p before s) = around p before (sustain now key cmd s) := by
  cases cls : keyClass s.params key <;> simp [sustain, sustainRepeat, cls, apply_ite (around p before)]

theorem releasePower_around (hold : Nat) :
    releasePower hold (around p before s) = around p before (releasePower hold s) := by
  rw [releasePower, releasePower, apply_ite (around p before), act_around]
  rfl

theorem digitLong_around (d : Fin 10) : digitLong d (around p before s) = around p before (digitLong d s) := by
  simp only [digitLong, act_around, around_cls, setCls_around]

theorem digitShort_around (d : Fin 10) :
    digitShort now d (around p before s) = around p before (digitShort now d s) := rfl

theorem releaseDigit_around (d : Fin 10) (hold : Nat) :
    releaseDigit now d hold (around p before s) = around p before (releaseDigit now d hold s) := by
  rw [releaseDigit, releaseDigit, apply_ite (around p before), digitLong_around, digitShort_around]
  rfl

theorem release_around : release now key (around p before s) = around p before (release now key s) := by
  cases cls : keyClass s.params key with
  | repeatKey => simp only [release, around_params, around_cls, setCls_around, cls]
  | powerKey => simp only [release, around_params, around_cls, setCls_around, cls, releasePower_around]
  | digitKey d => simp only [release, around_params, around_cls, setCls_around, cls, releaseDigit_around]
  | genericKey => simp only [release, around_params, around_cls, setCls_around, cls]

theorem classify_around (cur : Option (Keycode × String)) :
    classify now cur (around p before s) = around p before (classify now cur s) := by
  simp only [classify, around_cls]
  split
  next => rfl
  next => exact press_around p before s now _ _
  next => simp only [sustain_around, release_around, press_around, apply_ite (around p before)]
  next => exact release_around p before s now _

theorem timerExpiry_around : timerExpiry (around p before s) = around p before (timerExpiry s) := by
  simp [timerExpiry, apply_ite (around p before)]

end HostSide

/-- A host event that answers a next state answers the same behind every other producer. -/
theorem exec_hostPort_local {i : Instr} {s t : State} (p : Producer) (port : i.onHostPort = true)
    (ran : exec i s = .next t) : exec i { s with prod := p } = .next { t with prod := p } := by
  cases i with
  | hsnap now =>
    obtain ⟨up, clock, rfl⟩ := exec_hsnap_ran ran
    rw [exec_hsnap_up (s := { s with prod := p }) up clock]
    exact congrArg Host.Outcome.next (classify_around p [] (s.begin.setClock (some now)) now _)
  | htmr now =>
    obtain ⟨up, clock, due, rfl⟩ := exec_htmr_ran ran
    rw [exec_htmr_due (s := { s with prod := p }) up clock due]
    exact congrArg Host.Outcome.next (timerExpiry_around p [] (s.begin.setClock (some now)))
  | hrst =>
    obtain ⟨up, rfl⟩ := exec_hrst_ran ran
    exact exec_hrst_up (s := { s with prod := p }) up
  | hwaitto =>
    obtain ⟨up, clock, rfl⟩ := exec_hwaitto_ran ran
    exact exec_hwaitto_up (s := { s with prod := p }) up clock
  | hfault =>
    obtain ⟨up, clock, rfl⟩ := exec_hfault_ran ran
    exact exec_hfault_up (s := { s with prod := p }) up clock
  | _ => cases port

/-- Settles O52: each port runs alike whatever the other agent holds. -/
theorem agentsDoNotReadEachOther : Obligations.AgentsDoNotReadEachOther := fun _ s p c k =>
  ⟨exec_producerPort_local c k s, fun port _ => exec_hostPort_local p port⟩

/-! ## Timestamps that have not been written (10_state.md R45) -/

/-- Two classifiers that differ at most in timestamps no rule can read. -/
structure SameTimes (p : Params) (c d : Classifier) : Prop where
  lastKc : d.lastKc = c.lastKc
  dacc : d.dacc = c.dacc
  run : d.run = c.run
  ramp : d.ramp = c.ramp
  deadline : d.deadline = c.deadline
  tPress : c.lastKc ≠ none → d.tPress = c.tPress
  tFire : ∀ k, c.lastKc = some k → keyClass p k = .repeatKey → d.tFire = c.tFire
  tLastRel : 1 ≤ c.run → d.tLastRel = c.tLastRel

theorem SameTimes.refl (p : Params) (c : Classifier) : SameTimes p c c :=
  ⟨rfl, rfl, rfl, rfl, rfl, fun _ => rfl, fun _ _ _ => rfl, fun _ => rfl⟩

/-- `if` on an unread timestamp: equal exactly where the timestamp is read. -/
theorem ite_time_eq_iff {readable : Prop} [Decidable readable] {a b : Time} :
    (if readable then a else 0) = (if readable then b else 0) ↔ (readable → a = b) := by
  by_cases h : readable <;> simp [h]

theorem readable_fire_iff {p : Params} {key : Option Keycode} {a b : Time} :
    (key.map (keyClass p) = some .repeatKey → a = b) ↔ ∀ k, key = some k → keyClass p k = .repeatKey → a = b := by
  cases key <;> simp

theorem sameTimes_iff {p : Params} {c d : Classifier} : SameTimes p c d ↔ readableTimes p c = readableTimes p d := by
  constructor
  · rintro ⟨lastKc, dacc, run, ramp, deadline, tPress, tFire, tLastRel⟩
    simp only [readableTimes, Classifier.mk.injEq, lastKc, dacc, run, ramp, deadline, ite_time_eq_iff, readable_fire_iff]
    refine ⟨trivial, fun down => (tPress ?_).symm, trivial, fun opened => (tLastRel opened).symm,
      fun k down cls => (tFire k down cls).symm, trivial, trivial, trivial, trivial⟩
    exact Option.isSome_iff_ne_none.mp down
  · intro same
    simp only [readableTimes, Classifier.mk.injEq] at same
    obtain ⟨lastKc, tPress, -, tLastRel, tFire, dacc, run, ramp, deadline⟩ := same
    rw [lastKc, ite_time_eq_iff] at tPress
    rw [lastKc, ite_time_eq_iff, readable_fire_iff] at tFire
    rw [run, ite_time_eq_iff] at tLastRel
    exact ⟨lastKc.symm, dacc.symm, run.symm, ramp.symm, deadline.symm,
      fun down => (tPress (Option.isSome_iff_ne_none.mpr (lastKc ▸ down))).symm,
      fun k down cls => (tFire k (lastKc ▸ down) cls).symm, fun opened => (tLastRel (run ▸ opened)).symm⟩

theorem sameReadable_iff {s t : State} :
    SameReadable s t ↔ ∃ c, t = s.setCls c ∧ SameTimes s.params s.cls c := by
  obtain ⟨prod, cls, params, outp, hostClock, pending⟩ := s
  obtain ⟨prod', cls', params', outp', hostClock', pending'⟩ := t
  simp only [SameReadable, State.mk.injEq, sameTimes_iff, State.setCls]
  constructor
  · rintro ⟨rfl, same, rfl, rfl, rfl, rfl⟩
    exact ⟨cls', ⟨rfl, rfl, rfl, rfl, rfl, rfl⟩, same⟩
  · rintro ⟨c, ⟨rfl, rfl, rfl, rfl, rfl, rfl⟩, same⟩
    exact ⟨rfl, same, rfl, rfl, rfl, rfl⟩

/-- Two states that differ in their classifiers only, and in those at most in unreadable timestamps. -/
theorem sameReadable_setCls {s : State} {c d : Classifier} (same : SameTimes s.params c d) :
    SameReadable (s.setCls c) (s.setCls d) :=
  sameReadable_iff.mpr ⟨d, rfl, same⟩

section Times

variable {s : State} {c : Classifier} {now : Time} {key : Keycode} {cmd : String}

theorem sameReadable_press (same : SameTimes s.params s.cls c) :
    SameReadable (press now key cmd s) (press now key cmd (s.setCls c)) := by
  obtain ⟨-, dacc, run, ramp, deadline, -, -, tLastRel⟩ := same
  cases cls : keyClass s.params key with
  | repeatKey =>
    rw [press_of_repeat cls, press_of_repeat (s := s.setCls c) cls]
    exact sameReadable_setCls (s := s.act _)
      ⟨rfl, dacc, run, rfl, deadline, fun _ => rfl, fun _ _ _ => rfl, tLastRel⟩
  | powerKey | digitKey d | genericKey =>
    have notRepeat : ∀ j, some key = some j → keyClass s.params j = .repeatKey → c.tFire = s.cls.tFire := by
      rintro j ⟨⟩ rep
      cases cls.symm.trans rep
    simp only [press, State.setCls_params, cls]
    exact sameReadable_iff.mpr ⟨{ c with lastKc := some key, tPress := now }, rfl,
      rfl, dacc, run, ramp, deadline, fun _ => rfl, notRepeat, tLastRel⟩

/-- A held `Repeat` key reads `T_FIRE`, which both hold. -/
theorem sameReadable_sustain (down : s.cls.lastKc = some key) (same : SameTimes s.params s.cls c) :
    SameReadable (sustain now key cmd s) (sustain now key cmd (s.setCls c)) := by
  by_cases cls : keyClass s.params key = .repeatKey
  · have ramp := same.ramp
    have fire := same.tFire key down cls
    simp only [sustain, State.setCls_params, cls]
    by_cases due : s.cls.ramp ≤ elapsed now s.cls.tFire
    · rw [sustainRepeat_due now cmd s due, sustainRepeat_due now cmd (s.setCls c) (by rwa [State.setCls_cls, ramp, fire])]
      exact sameReadable_setCls (s := s.act _)
        { same with ramp := congrArg (decay s.params) ramp, tFire := fun _ _ _ => rfl }
    · have early := Nat.lt_of_not_le due
      rw [sustainRepeat_early now cmd s early,
        sustainRepeat_early now cmd (s.setCls c) (by rwa [State.setCls_cls, ramp, fire])]
      exact sameReadable_iff.mpr ⟨c, rfl, same⟩
  · rw [sustain_of_not_repeat cls, sustain_of_not_repeat (s := s.setCls c) cls]
    exact sameReadable_iff.mpr ⟨c, rfl, same⟩

/-- A key that goes up leaves `T_PRESS` and `T_FIRE` unreadable. -/
theorem sameTimes_keyUp {p : Params} {c d : Classifier} (same : SameTimes p c d) :
    SameTimes p { c with lastKc := none, tRelease := now } { d with lastKc := none, tRelease := now } :=
  { same with
    lastKc := rfl
    tPress := fun down => absurd rfl down
    tFire := fun _ down => by cases down }

theorem sameReadable_digitLong (d : Fin 10) (same : SameTimes s.params s.cls c) :
    SameReadable (digitLong d s) (digitLong d (s.setCls c)) :=
  sameReadable_setCls (s := s.act (.preset d.val))
    { same with dacc := rfl, run := rfl, tLastRel := fun opened => by cases opened }

/-- Whether a digit appends reads `T_LASTREL` behind an open run only. -/
theorem digitAppends_congr (same : SameTimes s.params s.cls c) : digitAppends now (s.setCls c) = digitAppends now s := by
  rw [Bool.eq_iff_iff, digitAppends_iff, digitAppends_iff]
  simp only [State.setCls_cls, State.setCls_params, same.run]
  constructor
  · rintro ⟨opened, below, recent⟩
    exact ⟨opened, below, same.tLastRel opened ▸ recent⟩
  · rintro ⟨opened, below, recent⟩
    exact ⟨opened, below, (same.tLastRel opened).symm ▸ recent⟩

theorem sameReadable_digitShort (d : Fin 10) (same : SameTimes s.params s.cls c) :
    SameReadable (digitShort now d s) (digitShort now d (s.setCls c)) := by
  have appends := digitAppends_congr (now := now) same
  cases h : digitAppends now s with
  | true =>
    rw [digitShort_append now d s h, digitShort_append now d (s.setCls c) (appends.trans h)]
    exact sameReadable_setCls (s := s) { same with
      dacc := by simp only [State.setCls_cls, same.dacc]
      run := by simp only [State.setCls_cls, same.run]
      deadline := rfl
      tLastRel := fun _ => rfl }
  | false =>
    rw [digitShort_restart now d s h, digitShort_restart now d (s.setCls c) (appends.trans h)]
    exact sameReadable_setCls (s := s) { same with
      dacc := rfl
      run := rfl
      deadline := rfl
      tLastRel := fun _ => rfl }

/-- A release reads `T_PRESS` of the key that was down. -/
theorem sameReadable_release (down : s.cls.lastKc = some key) (same : SameTimes s.params s.cls c) :
    SameReadable (release now key s) (release now key (s.setCls c)) := by
  have up := sameTimes_keyUp (now := now) same
  have pressed : c.tPress = s.cls.tPress := same.tPress (by simp [down])
  cases cls : keyClass s.params key with
  | repeatKey =>
    rw [release_of_repeat cls, release_of_repeat (s := s.setCls c) cls]
    exact sameReadable_setCls (s := s) up
  | genericKey =>
    rw [release_of_generic cls, release_of_generic (s := s.setCls c) cls]
    exact sameReadable_setCls (s := s) up
  | powerKey =>
    rw [release_of_power cls, release_of_power (s := s.setCls c) cls, State.setCls_cls, pressed, releasePower, releasePower]
    by_cases long : s.params.holdMs ≤ elapsed now s.cls.tPress
    · rw [if_pos (by exact long), if_pos (by exact long)]
      exact sameReadable_setCls (s := s.act .shutdown) up
    · rw [if_neg (by exact long), if_neg (by exact long)]
      exact sameReadable_setCls (s := s) up
  | digitKey d =>
    rw [release_of_digit cls, release_of_digit (s := s.setCls c) cls, State.setCls_cls, pressed, releaseDigit, releaseDigit]
    by_cases long : s.params.holdMs ≤ elapsed now s.cls.tPress
    · rw [if_pos (by exact long), if_pos (by exact long)]
      exact sameReadable_digitLong (s := s.setCls { s.cls with lastKc := none, tRelease := now }) d up
    · rw [if_neg (by exact long), if_neg (by exact long)]
      exact sameReadable_digitShort (s := s.setCls { s.cls with lastKc := none, tRelease := now }) d up

/-- Every case of `HSNAP`. -/
theorem sameReadable_classify (cur : Option (Keycode × String)) (same : SameTimes s.params s.cls c) :
    SameReadable (classify now cur s) (classify now cur (s.setCls c)) := by
  have lastKc : (s.setCls c).cls.lastKc = s.cls.lastKc := same.lastKc
  unfold classify
  rw [lastKc]
  split
  next => exact sameReadable_iff.mpr ⟨c, rfl, same⟩
  next => exact sameReadable_press same
  next j k _ down =>
    split
    next held =>
      cases held
      exact sameReadable_sustain down same
    next =>
      obtain ⟨d, eq, released⟩ := sameReadable_iff.mp (sameReadable_release (now := now) down same)
      rw [eq]
      exact sameReadable_press released
  next down => exact sameReadable_release down same

theorem sameReadable_timerExpiry (same : SameTimes s.params s.cls c) :
    SameReadable (timerExpiry s) (timerExpiry (s.setCls c)) := by
  rw [timerExpiry, timerExpiry, State.setCls_cls, same.run, same.dacc]
  split
  · exact sameReadable_setCls (s := s.act (.track s.cls.dacc))
      { same with deadline := rfl, dacc := rfl, run := rfl, tLastRel := fun opened => by cases opened }
  · exact sameReadable_setCls (s := s) { same with deadline := rfl }

end Times

/-! ## Every event, on two such states -/

section Events

variable {s : State} {c : Classifier} {k k' : State → Result}

theorem sameResult_onHost (body : SameResult (k s.begin) (k' (s.setCls c).begin)) :
    SameResult (onHost s k) (onHost (s.setCls c) k') := by
  rw [onHost, onHost, State.setCls_params]
  cases hostFatal s.params with
  | none => exact body
  | some f => exact rfl

theorem sameResult_atTime {now : Time}
    (body : SameResult (k (s.begin.setClock (some now))) (k' ((s.begin.setClock (some now)).setCls c))) :
    SameResult (atTime now s k) (atTime now (s.setCls c) k') := by
  refine sameResult_onHost ?_
  rw [State.setCls_hostClock]
  split
  · exact rfl
  · exact body

/-- An event of the host port: what it reads of the classifier, both states hold. -/
theorem sameResult_hostPort {i : Instr} (port : i.onHostPort = true) (same : SameTimes s.params s.cls c) :
    SameResult (exec i s) (exec i (s.setCls c)) := by
  cases i with
  | hsnap now =>
    rw [exec_hsnap, exec_hsnap]
    exact sameResult_atTime (sameReadable_classify (s := s.begin.setClock (some now)) _ same)
  | htmr now =>
    rw [exec_htmr, exec_htmr]
    refine sameResult_atTime ?_
    rw [show timerDue now (s.setCls c).cls = timerDue now s.cls by rw [timerDue, timerDue, State.setCls_cls, same.deadline]]
    split
    · exact sameReadable_timerExpiry (s := s.begin.setClock (some now)) same
    · exact rfl
  | hrst =>
    rw [exec_hrst, exec_hrst]
    exact sameResult_onHost (rfl : SameReadable _ _)
  | hwaitto now =>
    rw [exec_hwaitto, exec_hwaitto]
    exact sameResult_atTime (sameReadable_iff.mpr ⟨c, rfl, same⟩)
  | hfault now =>
    rw [exec_hfault, exec_hfault]
    exact sameResult_atTime (sameReadable_iff.mpr ⟨c, rfl, same⟩)
  | _ => cases port

/-- An event of the producer port: it leaves both classifiers as they are. -/
theorem sameResult_producerPort {i : Instr} (port : i.onHostPort = false) (same : SameTimes s.params s.cls c) :
    SameResult (exec i s) (exec i (s.setCls c)) := by
  obtain ⟨q, o, ran, ran'⟩ := exec_producerPort_local c s.hostClock s port
  rw [ran, show exec i (s.setCls c) = _ from ran']
  exact sameReadable_iff.mpr ⟨c, rfl, same⟩

end Events

/-- Settles O59: by the port of the event. -/
theorem unwrittenTimestampsAreNeverRead : Obligations.UnwrittenTimestampsAreNeverRead := by
  intro i s t same
  obtain ⟨c, rfl, times⟩ := sameReadable_iff.mp same
  cases port : i.onHostPort with
  | true => exact sameResult_hostPort port times
  | false => exact sameResult_producerPort port times

end Sys2Proof.Proofs
end

section
/-! PROOFS. `HSNAP` (47_host_classifier.md): the scan code of a register image, the lookup, and the statements on the cases of R206
and on the class `Digit`. -/

namespace Sys2Proof.Proofs

open Sys2Proof Sys2Proof.Machine Sys2Proof.Claims

/-! ## The scan code of a register image (R204) -/

theorem packBytes_cons_getLsbD (b : Byte) (bs : List Byte) {j : Nat} (inside : j < 64) :
    (packBytes (b :: bs)).getLsbD j = if j < 8 then b.getLsbD j else (packBytes bs).getLsbD (j - 8) := by
  by_cases low : j < 8
  · simp [packBytes, low, inside]
  · simp [packBytes, BitVec.getLsbD_eq_getElem, low, inside, show j - 8 < 64 by omega,
      BitVec.getLsbD_of_ge b j (by omega)]

theorem snapByte_getLsbD (snap : BitVec 64) (k : Nat) {j : Nat} (inside : j < 8) :
    (snapByte snap k).getLsbD j = snap.getLsbD (8 * k + j) := by
  simp [snapByte, inside]

/-- Byte `k` of a packed image is its `k`-th byte (30_encoding.md R82). -/
theorem snapByte_packBytes (bytes : List Byte) {k : Nat} (inside : k < 8) :
    snapByte (packBytes bytes) k = bytes.getD k 0 := by
  induction bytes generalizing k with
  | nil =>
    ext j hj
    simp [snapByte, packBytes]
  | cons b bs ih =>
    cases k with
    | zero =>
      refine BitVec.eq_of_getLsbD_eq fun j hj => ?_
      rw [snapByte_getLsbD _ _ hj, packBytes_cons_getLsbD b bs (by omega), if_pos (by omega), Nat.mul_zero, Nat.zero_add]
      rfl
    | succ k =>
      rw [List.getD_cons_succ, ← ih (by omega)]
      refine BitVec.eq_of_getLsbD_eq fun j hj => ?_
      rw [snapByte_getLsbD _ _ hj, snapByte_getLsbD _ _ hj, packBytes_cons_getLsbD b bs (by omega), if_neg (by omega),
        show 8 * (k + 1) + j - 8 = 8 * k + j by omega]

/-- A widened field has zeros above it. -/
theorem setWidth_eq_zeros_append (m : Nat) {n : Nat} (x : BitVec n) : x.setWidth (m + n) = 0#m ++ x := by
  ext j hj
  simp only [BitVec.getElem_setWidth, BitVec.getElem_append]
  split
  · rfl
  · simp [BitVec.getLsbD_of_ge x j (by omega)]

theorem snapScan_regImage (q : Producer) : snapScan (packBytes (regImage q)) = q.scan := by
  rw [snapScan, snapByte_packBytes _ (by decide), snapByte_packBytes _ (by decide), snapByte_packBytes _ (by decide)]
  calc q.scan.extractLsb' 16 8 ++ q.scan.extractLsb' 8 8 ++ q.scan.extractLsb' 0 8
      = q.scan.extractLsb' 8 16 ++ q.scan.extractLsb' 0 8 := congrArg (· ++ _) (extract_split q.scan 8 8 8)
    _ = q.scan.extractLsb' 0 24 := extract_split q.scan 0 16 8
    _ = q.scan := BitVec.extractLsb'_eq_self

theorem snapBtn_regImage (q : Producer) : snapBtn (packBytes (regImage q)) = q.btn := by
  rw [snapBtn, snapByte_packBytes _ (by decide), snapByte_packBytes _ (by decide), snapByte_packBytes _ (by decide),
    snapByte_packBytes _ (by decide)]
  calc q.btn.extractLsb' 24 8 ++ q.btn.extractLsb' 16 8 ++ q.btn.extractLsb' 8 8 ++ q.btn.extractLsb' 0 8
      = q.btn.extractLsb' 16 16 ++ q.btn.extractLsb' 8 8 ++ q.btn.extractLsb' 0 8 :=
        congrArg (· ++ _ ++ _) (extract_split q.btn 16 8 8)
    _ = q.btn.extractLsb' 8 24 ++ q.btn.extractLsb' 0 8 := congrArg (· ++ _) (extract_split q.btn 8 16 8)
    _ = q.btn.extractLsb' 0 32 := extract_split q.btn 0 24 8
    _ = q.btn := BitVec.extractLsb'_eq_self

/-- Settles O37: the bytes of the image are the fields of the producer. -/
theorem extractOfARegisterImage : Obligations.ExtractOfARegisterImage := by
  intro p q
  have status : snapByte (packBytes (regImage q)) 0 = statusByte q := snapByte_packBytes _ (by decide)
  have widened : q.scan.setWidth 32 = 0#8 ++ q.scan := setWidth_eq_zeros_append 8 q.scan
  simp only [extract, status, snapScan_regImage, snapBtn_regImage, statusByte_active, statusByte_dirA, statusByte_dirB,
    widened]

/-! ## The lookup (R205) -/

theorem lookup_some {p : Params} {c : ScanCode} (nonzero : c ≠ 0) :
    lookup p (some c) = ((tableEntries p).find? (fun e => e.scancode = c)).map (fun e => (e.keycode, e.command)) :=
  if_neg nonzero

theorem find_none_of_unbound {entries : List Binding} {c : ScanCode} (unbound : ∀ x ∈ entries, x.scancode ≠ c) :
    entries.find? (fun e => e.scancode = c) = none := by
  simpa using unbound

/-- Settles O38: `find?` over the table. -/
theorem lookupIsFirstExactMatch : Obligations.LookupIsFirstExactMatch := by
  intro p pre post e c
  refine ⟨rfl, rfl, fun nonzero table before isCode => ?first, fun table unbound => ?unbound⟩
  case first =>
    rw [lookup_some nonzero, tableEntries, table, Option.getD_some, List.find?_append, find_none_of_unbound before,
      Option.none_or, List.find?_cons_of_pos (by simpa using isCode)]
    rfl
  case unbound =>
    by_cases zero : c = 0
    · rw [zero]
      rfl
    · rw [lookup_some zero, tableEntries, table, Option.getD_some, find_none_of_unbound unbound]
      rfl

/-! ## The ramp (00_scope.md R16) -/

/-- Settles O47: the worked sequence is a closed term; the bounds are those of one decay step. -/
theorem rampSequenceAndBounds : Obligations.RampSequenceAndBounds := by
  refine ⟨by decide, fun p r wf aboveFloor => ?_⟩
  obtain ⟨-, factor⟩ := ramp_of_wf wf
  exact ⟨decay_ge_floor p r, decay_le p r factor aboveFloor, fun above => Nat.max_eq_right (Nat.le_of_lt above)⟩

/-! ## Every snapshot -/

/-- What a classifier event answers, told by its classifier and its actions. -/
theorem eq_of_hostFrame {s t : State} (frame : HostFrame s t) :
    t = { s with cls := t.cls, outp := { s.outp with out := t.outp.out } } := by
  obtain ⟨prod, params, hostClock, pending, outp⟩ := frame
  simp only [Outputs.mk.injEq] at outp
  obtain ⟨notify, wake, ret, -, outcome⟩ := outp
  simp only [← prod, ← params, ← hostClock, ← pending, ← notify, ← wake, ← ret, ← outcome]

theorem press_out_length (now : Time) (k : Keycode) (cmd : String) (s : State) :
    (press now k cmd s).outp.out.length ≤ s.outp.out.length + 1 := by
  cases cls : keyClass s.params k <;> simp [press, pressRepeat, pressGeneric, cls]

theorem sustain_out_length (now : Time) (k : Keycode) (cmd : String) (s : State) :
    (sustain now k cmd s).outp.out.length ≤ s.outp.out.length + 1 := by
  rw [sustain]
  split
  · rw [sustainRepeat]
    split <;> simp
  all_goals exact Nat.le_succ _

theorem release_out_length (now : Time) (j : Keycode) (s : State) :
    (release now j s).outp.out.length ≤ s.outp.out.length + 1 := by
  cases cls : keyClass s.params j with
  | repeatKey => simp [release_of_repeat cls]
  | genericKey => simp [release_of_generic cls]
  | powerKey =>
    rw [release_of_power cls, releasePower]
    split <;> simp
  | digitKey d =>
    rw [release_of_digit cls, releaseDigit]
    split
    · simp [digitLong]
    · simp [digitShort]

/-- A snapshot produces at most the action of a release and that of a press. -/
theorem classify_out_length (now : Time) (cur : Option (Keycode × String)) (s : State) :
    (classify now cur s).outp.out.length ≤ s.outp.out.length + 2 := by
  unfold classify
  split
  next => omega
  next _ k cmd _ =>
    have pressed := press_out_length now k cmd s
    omega
  next j k cmd _ =>
    split
    next =>
      have sustained := sustain_out_length now k cmd s
      omega
    next =>
      have released := release_out_length now j s
      have pressed := press_out_length now k cmd (release now j s)
      omega
  next j _ =>
    have released := release_out_length now j s
    omega

/-- Settles O50: the frame of the classifier, and its bound on the actions. -/
theorem everySnapshotIsClassified : Obligations.EverySnapshotIsClassified := by
  intro s now snap up clock
  have frame := classify_frame now (shown s snap) (s.begin.setClock (some now))
  have atMostTwo := classify_out_length now (shown s snap) (s.begin.setClock (some now))
  have effect : HostEffect (.hsnap now snap) now s _ _ :=
    (exec_hsnap_up up clock).trans (congrArg Host.Outcome.next (eq_of_hostFrame frame))
  exact ⟨_, _, effect, atMostTwo⟩

/-! ## The cases of R206 -/

section Cases

variable {s : State} {now : Time} {snap : BitVec 64} {j k : Keycode} {cmd : String} {d : Fin 10}

/-- Case 1: no key, and none down. -/
theorem hostEffect_no_key (up : HostUp s) (clock : ClockOk now s) (noneDown : s.cls.lastKc = none)
    (noKey : shown s snap = none) : HostEffect (.hsnap now snap) now s s.cls [] := by
  rw [HostEffect, exec_hsnap_up up clock, noKey]
  simp only [classify, State.setClock_cls, State.begin_cls, noneDown]
  rfl

/-- A released digit key, with the hold across its press and its release. -/
theorem hostEffect_release_digit {c : Classifier} {acts : List Action} (up : HostUp s) (clock : ClockOk now s)
    (down : s.cls.lastKc = some j) (noKey : shown s snap = none) (cls : keyClass s.params j = .digitKey d)
    (released : releaseDigit now d (elapsed now s.cls.tPress)
      ((s.begin.setClock (some now)).setCls { s.cls with lastKc := none, tRelease := now }) =
      { s with cls := c, hostClock := some now, outp := { out := acts } }) :
    HostEffect (.hsnap now snap) now s c acts :=
  hostEffect_of_release up clock down noKey ((release_of_digit (s := s.begin.setClock (some now)) cls).trans released)

end Cases

/-- Settles O39: case 1, case 5 for the two classes that release without action, and case 2 for the two that press without. -/
theorem snapshotsThatOnlyTrackTheKey : Obligations.SnapshotsThatOnlyTrackTheKey := by
  intro s now snap up clock
  refine ⟨fun noneDown noKey => ?nothing, fun j down noKey cls => ?release, fun k cmd noneDown key cls => ?press⟩
  case nothing => exact hostEffect_no_key up clock noneDown noKey
  case release =>
    rcases cls with cls | cls
    · exact hostEffect_of_release up clock down noKey (release_of_repeat cls)
    · exact hostEffect_of_release up clock down noKey (release_of_generic cls)
  case press =>
    rcases cls with cls | ⟨d, cls⟩
    · exact hostEffect_of_press up clock noneDown key (press_of_power cls)
    · exact hostEffect_of_press up clock noneDown key (press_of_digit cls)

/-- Settles O41: a held key, by its class and the delay since its last fire. -/
theorem heldKeyRepeatsOnlyWhenTheDelayElapsed : Obligations.HeldKeyRepeatsOnlyWhenTheDelayElapsed := by
  intro s now snap k cmd up clock down key
  refine ⟨fun cls due => ?due, fun cls ordered early => ?early, fun cls => ?other⟩
  case due =>
    have waited : s.cls.ramp ≤ elapsed now s.cls.tFire := by rw [elapsed]; omega
    refine hostEffect_of_sustain up clock down key ?_
    simp only [sustain, State.setClock_params, State.begin_params, cls]
    exact sustainRepeat_due now cmd _ waited
  case early =>
    have waited : elapsed now s.cls.tFire < s.cls.ramp := by rw [elapsed]; omega
    refine hostEffect_of_sustain up clock down key ?_
    simp only [sustain, State.setClock_params, State.begin_params, cls]
    exact sustainRepeat_early now cmd _ waited
  case other => exact hostEffect_held_of_not_repeat up clock down key cls

/-- Settles O43: the long branch of a digit release. -/
theorem longDigitJumpsToPreset : Obligations.LongDigitJumpsToPreset := by
  intro s now snap j d up clock down cls noKey held
  have long : s.params.holdMs ≤ elapsed now s.cls.tPress := by rw [elapsed]; omega
  exact hostEffect_release_digit up clock down noKey cls (releaseDigit_long now d _ _ long)

/-- Settles O44: the short branch of a digit release, by whether the digit appends. -/
theorem shortDigitAppendsOrRestarts : Obligations.ShortDigitAppendsOrRestarts := by
  intro s now snap j d up clock down cls noKey ordered early runOrdered
  have short : elapsed now s.cls.tPress < s.params.holdMs := by rw [elapsed]; omega
  refine hostEffect_release_digit up clock down noKey cls ?_
  rw [releaseDigit_short now d _ _ (by exact short)]
  generalize released : (s.begin.setClock (some now)).setCls { s.cls with lastKc := none, tRelease := now } = t
  have appends_iff : digitAppends now t = true ↔
      1 ≤ s.cls.run ∧ s.cls.run < s.params.runMax ∧ now.toNat < s.cls.tLastRel.toNat + s.params.tapMs := by
    subst released
    rw [digitAppends_iff]
    refine and_congr_right fun opened => and_congr_right fun _ => ?_
    have := runOrdered opened
    simp only [elapsed, State.setCls_cls, State.setCls_params, State.setClock_params, State.begin_params]
    omega
  by_cases appends : digitAppends now t = true
  · rw [digitShort_append now d t appends, if_pos (appends_iff.mp appends), ← released]
    rfl
  · rw [digitShort_restart now d t (Bool.eq_false_iff.mpr appends), if_neg (mt appends_iff.mpr appends), ← released]
    rfl

/-! ## A change of key (decision D26) -/

theorem release_lastKc (now : Time) (j : Keycode) (s : State) : (release now j s).cls.lastKc = none := by
  cases cls : keyClass s.params j with
  | repeatKey => rw [release_of_repeat cls]; rfl
  | genericKey => rw [release_of_generic cls]; rfl
  | powerKey =>
    rw [release_of_power cls, releasePower]
    split <;> rfl
  | digitKey d =>
    rw [release_of_digit cls, releaseDigit]
    split <;> rfl

section Change

variable {s : State} {now : Time} {j k : Keycode} {cmd : String}

theorem classify_gone (down : s.cls.lastKc = some j) : classify now none s = release now j s := by
  simp only [classify, down]

theorem classify_press (noneDown : s.cls.lastKc = none) : classify now (some (k, cmd)) s = press now k cmd s := by
  simp only [classify, noneDown]

theorem classify_change (down : s.cls.lastKc = some j) (other : j ≠ k) :
    classify now (some (k, cmd)) s = press now k cmd (release now j s) := by
  simp only [classify, down, if_neg other]

end Change

/-- After one classifier event, `around` puts its actions before those of the next. -/
theorem around_of_hostFrame {s t : State} {now : Time} (before : List Action)
    (frame : HostFrame (s.begin.setClock (some now)) t) :
    around s.prod before t = { t with outp := { out := before ++ t.outp.out } } := by
  rw [eq_of_hostFrame frame]
  rfl

theorem around_begin {s t : State} {now : Time} (frame : HostFrame (s.begin.setClock (some now)) t) :
    around t.prod t.outp.out (t.begin.setClock (some now)) = t := by
  rw [eq_of_hostFrame frame]
  simp only [around, State.setClock, State.begin, State.setOutp, List.append_nil]

/-- Settles O46: the press of the new key sees the release of the old one only as actions already produced. -/
theorem keyChangeIsReleaseThenPress : Obligations.KeyChangeIsReleaseThenPress := by
  intro s t u now snap gone j k cmd down key other noKey ranGone ranSnap
  obtain ⟨up, clock, released⟩ := exec_hsnap_ran ranGone
  obtain ⟨-, -, pressed⟩ := exec_hsnap_ran ranSnap
  rw [noKey, classify_gone (s := s.begin.setClock (some now)) down] at released
  have frame : HostFrame (s.begin.setClock (some now)) t := by
    rw [released]
    exact release_frame _ _ _
  have noneDown : t.cls.lastKc = none := by
    rw [released]
    exact release_lastKc _ _ _
  have sameKey : shown t snap = some (k, cmd) := by
    rw [← key, shown, shown, frame.params]
    rfl
  rw [sameKey, classify_press (s := t.begin.setClock (some now)) noneDown] at pressed
  have newFrame : HostFrame (t.begin.setClock (some now)) u := by
    rw [pressed]
    exact press_frame _ _ _ _
  rw [exec_hsnap_up up clock, key, classify_change (s := s.begin.setClock (some now)) down other, ← released,
    ← around_of_hostFrame t.outp.out newFrame, pressed, ← press_around, around_begin frame]

end Sys2Proof.Proofs
end

section
/-! PROOFS. The rows of the `PULSE` transition table (30_encoding.md R88, R89, R95): the class of a width from its window, the row
from the class, and the effect of each row. -/

namespace Sys2Proof.Proofs

open Sys2Proof Sys2Proof.Machine Sys2Proof.Claims

/-! ## Lead classes (R88) -/

/-- The window of a lead class. -/
def InLead (p : Params) (w : Width) : LeadClass → Prop
  | .rc5 => Within p.rc5Lead w
  | .sirc => Within p.sircLead w
  | .necr => Within p.necrLead w
  | .nec => Within p.necLead w
  | .noise => InNone [p.rc5Lead, p.sircLead, p.necrLead, p.necLead] w

theorem inLead_leadClass (p : Params) (w : Width) : InLead p w (leadClass p w) := by
  rw [leadClass]
  split
  next rc5 => exact inWindow_iff.mp rc5
  next notRc5 =>
    split
    next sirc => exact inWindow_iff.mp sirc
    next notSirc =>
      split
      next necr => exact inWindow_iff.mp necr
      next notNecr =>
        split
        next nec => exact inWindow_iff.mp nec
        next notNec =>
          simp only [inWindow_iff] at notRc5 notSirc notNecr notNec
          simp [InLead, InNone, notRc5, notSirc, notNecr, notNec]

/-- In disjoint windows a width has the class of its window. -/
theorem leadClass_of_inLead {p : Params} {w : Width} {c : LeadClass} (apart : p.leadsDisjoint = true)
    (lead : InLead p w c) : leadClass p w = c := by
  cases c with
  | rc5 => rw [leadClass, if_pos (inWindow_iff.mpr lead)]
  | sirc => exact leadClass_of_sircLead apart lead
  | necr =>
    simp only [Params.leadsDisjoint, Bool.and_eq_true] at apart
    obtain ⟨⟨⟨⟨⟨-, rc5_necr⟩, -⟩, sirc_necr⟩, -⟩, -⟩ := apart
    rw [leadClass, if_neg (not_inWindow_of_disjoint rc5_necr lead), if_neg (not_inWindow_of_disjoint sirc_necr lead),
      if_pos (inWindow_iff.mpr lead)]
  | nec => exact leadClass_of_necLead apart lead
  | noise => exact leadClass_of_inNone lead

theorem leadClass_eq_iff {p : Params} {w : Width} {c : LeadClass} (apart : p.leadsDisjoint = true) :
    leadClass p w = c ↔ InLead p w c :=
  ⟨fun cls => cls ▸ inLead_leadClass p w, leadClass_of_inLead apart⟩

/-- Settles O11: the document's windows are disjoint, so each class is its window. -/
theorem leadClassesAreTheTable : Obligations.LeadClassesAreTheTable := by
  intro p w rc5 sirc necr nec
  have apart : p.leadsDisjoint = true := by
    rw [Params.leadsDisjoint, rc5, sirc, necr, nec]
    decide
  simp only [leadClass_eq_iff apart, InLead, InNone, List.forall_mem_cons, List.not_mem_nil, false_implies, implies_true,
    Within, rc5, sirc, necr, nec, true_and, and_true]
  omega

/-! ## Bit classes and RC5 classes (R89) -/

/-- The window and the side of the threshold of a bit class; the threshold itself is a 1. -/
def InBit (win : Window) (thr : Nat) (w : Width) : BitClass → Prop
  | .zero => Within win w ∧ w.toNat < thr
  | .one => Within win w ∧ thr ≤ w.toNat
  | .out => ¬ Within win w

theorem inBit_bitClass (win : Window) (thr : Nat) (w : Width) : InBit win thr w (bitClass win thr w) := by
  rw [bitClass]
  split
  next inside =>
    split
    next one => exact ⟨inWindow_iff.mp inside, one⟩
    next zero => exact ⟨inWindow_iff.mp inside, Nat.lt_of_not_le zero⟩
  next outside => exact mt inWindow_iff.mpr outside

theorem bitClass_of_inBit {win : Window} {thr : Nat} {w : Width} {c : BitClass} (bit : InBit win thr w c) :
    bitClass win thr w = c := by
  cases c with
  | zero =>
    obtain ⟨inside, zero⟩ := bit
    rw [bitClass, if_pos (inWindow_iff.mpr inside), if_neg (Nat.not_le.mpr zero)]
  | one =>
    obtain ⟨inside, one⟩ := bit
    rw [bitClass, if_pos (inWindow_iff.mpr inside), if_pos one]
  | out => rw [bitClass, if_neg (mt inWindow_iff.mp bit)]

/-- The window of an RC5 class. -/
def InRc5 (p : Params) (w : Width) : Rc5Class → Prop
  | .t1 => Within p.rc5T1 w
  | .t15 => Within p.rc5T15 w
  | .t2 => Within p.rc5T2 w
  | .out => InNone [p.rc5T1, p.rc5T15, p.rc5T2] w

theorem inRc5_rc5Class (p : Params) (w : Width) : InRc5 p w (rc5Class p w) := by
  rw [rc5Class]
  split
  next t1 => exact inWindow_iff.mp t1
  next notT1 =>
    split
    next t15 => exact inWindow_iff.mp t15
    next notT15 =>
      split
      next t2 => exact inWindow_iff.mp t2
      next notT2 =>
        simp only [inWindow_iff] at notT1 notT15 notT2
        simp [InRc5, InNone, notT1, notT15, notT2]

theorem rc5Class_of_inNone {p : Params} {w : Width} (outside : InNone [p.rc5T1, p.rc5T15, p.rc5T2] w) :
    rc5Class p w = .out := by
  simp only [InNone, List.forall_mem_cons, ← inWindow_iff] at outside
  obtain ⟨notT1, notT15, notT2, -⟩ := outside
  rw [rc5Class, if_neg notT1, if_neg notT15, if_neg notT2]

/-- In disjoint windows a width has the class of its window. -/
theorem rc5Class_of_inRc5 {p : Params} {w : Width} {c : Rc5Class} (apart : p.rc5Disjoint = true) (inside : InRc5 p w c) :
    rc5Class p w = c := by
  simp only [Params.rc5Disjoint, Bool.and_eq_true] at apart
  obtain ⟨⟨t1_t15, t1_t2⟩, t15_t2⟩ := apart
  cases c with
  | t1 => rw [rc5Class, if_pos (inWindow_iff.mpr inside)]
  | t15 => rw [rc5Class, if_neg (not_inWindow_of_disjoint t1_t15 inside), if_pos (inWindow_iff.mpr inside)]
  | t2 =>
    rw [rc5Class, if_neg (not_inWindow_of_disjoint t1_t2 inside), if_neg (not_inWindow_of_disjoint t15_t2 inside),
      if_pos (inWindow_iff.mpr inside)]
  | out => exact rc5Class_of_inNone inside

/-! ## The table (R95) -/

theorem rc5Disjoint_of_wf {p : Params} (wf : p.wf = true) : p.rc5Disjoint = true := by
  simp only [Params.wf, Bool.and_eq_true] at wf
  obtain ⟨⟨⟨⟨⟨⟨⟨-, rc5⟩, -⟩, -⟩, -⟩, -⟩, -⟩, -⟩ := wf
  exact rc5

/-- The row that the decoder selects is met, whatever the windows. -/
theorem inRow_pulseRow (p : Params) (d : DState) (w : Width) : InRow p d w (pulseRow p d w) := by
  cases d with
  | idle =>
    have lead := inLead_leadClass p w
    rw [pulseRow]
    cases cls : leadClass p w <;> exact ⟨rfl, by rwa [cls] at lead⟩
  | necCollect =>
    have bit := inBit_bitClass p.necBit p.necThr w
    rw [pulseRow, necClass]
    cases cls : bitClass p.necBit p.necThr w <;> exact ⟨rfl, by rwa [cls] at bit⟩
  | sircCollect =>
    have bit := inBit_bitClass p.sircBit p.sircThr w
    rw [pulseRow, sircClass]
    cases cls : bitClass p.sircBit p.sircThr w <;> exact ⟨rfl, by rwa [cls] at bit⟩
  | rc5Mid1 =>
    have inside := inRc5_rc5Class p w
    rw [pulseRow]
    cases cls : rc5Class p w with
    | out => exact ⟨.inl rfl, by rwa [cls] at inside⟩
    | _ => exact ⟨rfl, by rwa [cls] at inside⟩
  | rc5Start0 =>
    have inside := inRc5_rc5Class p w
    rw [pulseRow]
    cases cls : rc5Class p w with
    | out => exact ⟨.inr rfl, by rwa [cls] at inside⟩
    | _ => exact ⟨rfl, by rwa [cls] at inside⟩
  | leadClassified => exact .inl rfl
  | rc5Mid0 => exact .inr (.inl rfl)
  | reserved7 => exact .inr (.inr rfl)

/-- With legal parameters the row that is met is the one that the decoder selects. -/
theorem pulseRow_of_inRow {p : Params} {d : DState} {w : Width} {r : PulseRow} (wf : p.wf = true) (row : InRow p d w r) :
    pulseRow p d w = r := by
  have lead {c : LeadClass} (inside : InLead p w c) := leadClass_of_inLead (leadsDisjoint_of_wf wf) inside
  have nec {c : BitClass} (bit : InBit p.necBit p.necThr w c) : necClass p w = c := bitClass_of_inBit bit
  have sirc {c : BitClass} (bit : InBit p.sircBit p.sircThr w c) : sircClass p w = c := bitClass_of_inBit bit
  have rc5 {c : Rc5Class} (inside : InRc5 p w c) := rc5Class_of_inRc5 (rc5Disjoint_of_wf wf) inside
  cases r with
  | idleLRc5 => obtain ⟨rfl, inside⟩ := row; simp only [pulseRow, lead (c := .rc5) inside]
  | idleLSirc => obtain ⟨rfl, inside⟩ := row; simp only [pulseRow, lead (c := .sirc) inside]
  | idleLNecr => obtain ⟨rfl, inside⟩ := row; simp only [pulseRow, lead (c := .necr) inside]
  | idleLNec => obtain ⟨rfl, inside⟩ := row; simp only [pulseRow, lead (c := .nec) inside]
  | idleLNoise => obtain ⟨rfl, inside⟩ := row; simp only [pulseRow, lead (c := .noise) inside]
  | necCollectN0 => obtain ⟨rfl, bit⟩ := row; simp only [pulseRow, nec (c := .zero) bit]
  | necCollectN1 => obtain ⟨rfl, bit⟩ := row; simp only [pulseRow, nec (c := .one) bit]
  | necCollectOut => obtain ⟨rfl, bit⟩ := row; simp only [pulseRow, nec (c := .out) bit]
  | sircCollectS0 => obtain ⟨rfl, bit⟩ := row; simp only [pulseRow, sirc (c := .zero) bit]
  | sircCollectS1 => obtain ⟨rfl, bit⟩ := row; simp only [pulseRow, sirc (c := .one) bit]
  | sircCollectOut => obtain ⟨rfl, bit⟩ := row; simp only [pulseRow, sirc (c := .out) bit]
  | rc5Mid1T1 => obtain ⟨rfl, inside⟩ := row; simp only [pulseRow, rc5 (c := .t1) inside]
  | rc5Mid1T15 => obtain ⟨rfl, inside⟩ := row; simp only [pulseRow, rc5 (c := .t15) inside]
  | rc5Mid1T2 => obtain ⟨rfl, inside⟩ := row; simp only [pulseRow, rc5 (c := .t2) inside]
  | rc5Start0T1 => obtain ⟨rfl, inside⟩ := row; simp only [pulseRow, rc5 (c := .t1) inside]
  | rc5Start0T15 => obtain ⟨rfl, inside⟩ := row; simp only [pulseRow, rc5 (c := .t15) inside]
  | rc5Start0T2 => obtain ⟨rfl, inside⟩ := row; simp only [pulseRow, rc5 (c := .t2) inside]
  | rc5Out => obtain ⟨rfl | rfl, outside⟩ := row <;> simp only [pulseRow, rc5 (c := .out) outside]
  | transientAny => obtain rfl | rfl | rfl := row <;> rfl

/-- Settles O7: the word is that of `PULSE w`, and its row is the selected one. -/
theorem rowsDecodeInTheirState : Obligations.RowsDecodeInTheirState := by
  intro p d w wf
  refine ⟨fun r row => ?_, _, inRow_pulseRow p d w⟩
  have word : decode (.p (0x01#8 ++ (0x0000#16 ++ w))) = .instr (.pulse w) := decode_wordPulse w
  rw [decodeIn, word, ← pulseRow_of_inRow wf row]

theorem event_of_row (r : PulseRow) (w : Width) : (r.instr w).event = .pulse w := by
  cases r <;> rfl

/-- Settles O23: a row's instruction and `PULSE` stand for the same event. -/
theorem rowsAgreeWithPulse : Obligations.RowsAgreeWithPulse := by
  intro r w s
  rw [← exec_event, event_of_row]

/-! ## The effect of a row -/

/-- With legal parameters, the row that is met does its action, spelled both ways. -/
theorem pulseEffect_of_inRow {r : PulseRow} {w : Width} {s : State} {p : Producer} {o : Outputs}
    (wf : s.params.wf = true) (row : InRow s.params s.prod.dstate w r)
    (effect : rowAction r (pulseBegin s) = { s with prod := p, outp := o }) : PulseEffect r.instr w s p o :=
  pulseEffect_of_selectedRow (event_of_row r w) (pulseRow_of_inRow wf row) effect

/-- Of two rows that differ in the bit they take, the threshold decides which is met. -/
theorem pulseEffect_of_threshold {zero one : PulseRow} {takeBit : Bool → State → State} {thr : Nat} {w : Width}
    {s : State} {p : Producer} {o : Outputs}
    (wf : s.params.wf = true) (below : w.toNat < thr → InRow s.params s.prod.dstate w zero)
    (reached : thr ≤ w.toNat → InRow s.params s.prod.dstate w one)
    (zeroAction : rowAction zero = takeBit false) (oneAction : rowAction one = takeBit true)
    (effect : takeBit (decide (thr ≤ w.toNat)) (pulseBegin s) = { s with prod := p, outp := o }) :
    PulseEffect (if thr ≤ w.toNat then one.instr else zero.instr) w s p o := by
  by_cases h : thr ≤ w.toNat
  · rw [decide_eq_true h, ← oneAction] at effect
    rw [if_pos h]
    exact pulseEffect_of_inRow wf (reached h) effect
  · rw [decide_eq_false h, ← zeroAction] at effect
    rw [if_neg h]
    exact pulseEffect_of_inRow wf (below (Nat.lt_of_not_le h)) effect

/-- Settles O13: the preload of R113. -/
theorem rc5LeadStartsWithTwoBits : Obligations.Rc5LeadStartsWithTwoBits := fun _ _ wf idle lead =>
  pulseEffect_of_inRow (r := .idleLRc5) wf ⟨idle, lead⟩ rfl

/-- Settles O14: an emission without a code. -/
theorem necRepeatEmitsWithoutACode : Obligations.NecRepeatEmitsWithoutACode := fun _ _ wf idle lead =>
  pulseEffect_of_inRow (r := .idleLNecr) wf ⟨idle, lead⟩ rfl

/-- Settles O16: each width that its state does not recognise selects a row that aborts. -/
theorem outOfWindowPulseAborts : Obligations.OutOfWindowPulseAborts := by
  intro s w
  have aborts := abort_pulseBegin s
  refine ⟨fun nec outside => ?_, fun sirc outside => ?_, fun rc5 outside => ?_, fun wf start inside => ?_⟩
  · refine pulseEffect_of_selectedRow (r := .necCollectOut) rfl ?_ aborts
    simp only [selectedRow, nec, pulseRow, necClass, bitClass_of_inBit (c := .out) outside]
  · refine pulseEffect_of_selectedRow (r := .sircCollectOut) rfl ?_ aborts
    simp only [selectedRow, sirc, pulseRow, sircClass, bitClass_of_inBit (c := .out) outside]
  · refine pulseEffect_of_selectedRow (r := .rc5Out) rfl ?_ aborts
    rcases rc5 with rc5 | rc5 <;> simp only [selectedRow, rc5, pulseRow, rc5Class_of_inNone outside]
  · exact pulseEffect_of_inRow (r := .rc5Start0T2) wf ⟨start, inside⟩ aborts

/-- Settles O17: no width class is read in these states. -/
theorem transientStatesAbort : Obligations.TransientStatesAbort := by
  intro s w transient
  refine pulseEffect_of_selectedRow (r := .transientAny) rfl ?_ (abort_pulseBegin s)
  rcases transient with d | d | d <;> rw [selectedRow, d, pulseRow]

/-! ## NEC (43_nec_collector.md) -/

theorem bitPlaced_placeBit (acc : BitVec 32) (i : Nat) (b : Bool) : BitPlaced acc (placeBit acc i b) i b :=
  placeBit_getLsbD acc i b

/-- Placing a bit has one result. -/
theorem eq_placeBit_of_bitPlaced {acc acc' : BitVec 32} {i : Nat} {b : Bool} (placed : BitPlaced acc acc' i b) :
    acc' = placeBit acc i b :=
  BitVec.eq_of_getLsbD_eq fun j inside => by rw [placed j inside, placeBit_getLsbD acc i b j inside]

/-- The row of an in-window NEC pulse is that of its bit. -/
theorem pulseEffect_of_necBit {w : Width} {s : State} {p : Producer} {o : Outputs} (wf : s.params.wf = true)
    (collecting : s.prod.dstate = .necCollect) (inside : Within s.params.necBit w)
    (effect : Machine.necBit (decide (s.params.necThr ≤ w.toNat)) (pulseBegin s) = { s with prod := p, outp := o }) :
    PulseEffect (if s.params.necThr ≤ w.toNat then .pulseNecCollectN1 else .pulseNecCollectN0) w s p o :=
  pulseEffect_of_threshold (zero := .necCollectN0) (one := .necCollectN1) wf
    (fun below => ⟨collecting, inside, below⟩) (fun reached => ⟨collecting, inside, reached⟩) rfl rfl effect

/-- Settles O18: the bit placed, and the count below the frame. -/
theorem necPulsePlacesABit : Obligations.NecPulsePlacesABit := by
  intro s w wf collecting more inside
  refine ⟨_, bitPlaced_placeBit _ _ _, pulseEffect_of_necBit wf collecting inside ?_⟩
  obtain ⟨-, fits, -⟩ := frameBits_of_wf wf
  have counted : (s.prod.idx + 1).toNat = s.prod.idx.toNat + 1 := idx_succ (n := s.params.necBits) (by omega) (by omega)
  rw [necBit_more _ (pulseBegin s) (by change (s.prod.idx + 1).toNat ≠ s.params.necBits; omega)]
  rfl

section Bytes

variable (b3 b2 b1 b0 : Byte)

theorem frame_byte0 : (b3 ++ b2 ++ b1 ++ b0).extractLsb' 0 8 = b0 := extract_append_low _ b0

theorem frame_byte1 : (b3 ++ b2 ++ b1 ++ b0).extractLsb' 8 8 = b1 :=
  (extract_append_above _ b0 0 8).trans (extract_append_low _ b1)

theorem frame_byte2 : (b3 ++ b2 ++ b1 ++ b0).extractLsb' 16 8 = b2 :=
  (extract_append_above _ b0 8 8).trans ((extract_append_above _ b1 0 8).trans (extract_append_low _ b2))

theorem frame_byte3 : (b3 ++ b2 ++ b1 ++ b0).extractLsb' 24 8 = b3 :=
  (extract_append_above _ b0 16 8).trans ((extract_append_above _ b1 8 8).trans (extract_append_high b3 b2))

theorem commandOk_bytes : commandOk (b3 ++ b2 ++ b1 ++ b0) = decide (b2 = ~~~b3) := by
  rw [commandOk, frame_byte2, frame_byte3]

theorem addressOk_bytes : addressOk (b3 ++ b2 ++ b1 ++ b0) = decide (b0 = ~~~b1) := by
  rw [addressOk, frame_byte0, frame_byte1]

/-- The code of R148, on the bytes of a frame. -/
theorem necValidate_bytes (p : Params) :
    necValidate p (b3 ++ b2 ++ b1 ++ b0) =
      if b2 = ~~~b3 then
        if b0 = ~~~b1 then 0x00#8 ++ b0 ++ b2 else b1 ++ b0 ++ b2
      else p.necInvalid := by
  rw [necValidate, commandOk_bytes, addressOk_bytes, frame_byte0, frame_byte1, frame_byte2]
  by_cases command : b2 = ~~~b3
  · by_cases address : b0 = ~~~b1 <;> simp [command, address]
  · simp [command]

end Bytes

/-- The last NEC bit, by the command half of the frame it completes. -/
theorem necBit_last {s : State} {b : Bool} (last : (s.prod.idx + 1).toNat = s.params.necBits) :
    Machine.necBit b (pulseBegin s) =
      { s with
        prod := afterEmit s.params.cntMax (some (necValidate s.params (placeBit s.prod.acc s.prod.idx.toNat b)))
          { s.prod with irArmed := true }
        outp := emitOutputs s (if commandOk (placeBit s.prod.acc s.prod.idx.toNat b) then .ok else .checksumFail) } := by
  rw [necBit_done b (pulseBegin s) last]
  cases command : commandOk (placeBit s.prod.acc s.prod.idx.toNat b) with
  | true =>
    rw [necComplete_ok (t := necPlace b (pulseBegin s)) command]
    rfl
  | false =>
    rw [necComplete_bad (t := necPlace b (pulseBegin s)) command]
    rfl

/-- Settles O19: the last bit completes the four bytes, which the command half sorts into valid and invalid. -/
theorem necFrameIsValidatedAndEmitted : Obligations.NecFrameIsValidatedAndEmitted := by
  intro s w b0 b1 b2 b3 wf collecting last inside placed
  refine pulseEffect_of_necBit wf collecting inside ?_
  obtain ⟨-, fits, -⟩ := frameBits_of_wf wf
  have counted : (s.prod.idx + 1).toNat = s.prod.idx.toNat + 1 := idx_succ (n := s.params.necBits) (by omega) (by omega)
  rw [necBit_last (counted.trans last), ← eq_placeBit_of_bitPlaced placed, necValidate_bytes, commandOk_bytes]
  simp only [decide_eq_true_eq]

/-! ## SIRC (42_sirc_collector.md) -/

/-- The row of an in-window SIRC pulse is that of its bit. -/
theorem pulseEffect_of_sircBit {w : Width} {s : State} {p : Producer} {o : Outputs} (wf : s.params.wf = true)
    (collecting : s.prod.dstate = .sircCollect) (inside : Within s.params.sircBit w)
    (effect : Machine.sircBit (decide (s.params.sircThr ≤ w.toNat)) (pulseBegin s) = { s with prod := p, outp := o }) :
    PulseEffect (if s.params.sircThr ≤ w.toNat then .pulseSircCollectS1 else .pulseSircCollectS0) w s p o :=
  pulseEffect_of_threshold (zero := .sircCollectS0) (one := .sircCollectS1) wf
    (fun below => ⟨collecting, inside, below⟩) (fun reached => ⟨collecting, inside, reached⟩) rfl rfl effect

/-- Settles O20: the bit placed, and the payload at the last bit. -/
theorem sircPulsePlacesABitOrEmits : Obligations.SircPulsePlacesABitOrEmits := by
  intro s w wf collecting room inside
  obtain ⟨-, fits⟩ := sircBits_of_wf wf
  have counted : (s.prod.idx + 1).toNat = s.prod.idx.toNat + 1 := idx_succ room (by omega)
  refine ⟨_, bitPlaced_placeBit _ _ _, fun more => ?_, fun last => ?_⟩ <;>
    refine pulseEffect_of_sircBit wf collecting inside ?_
  · rw [sircBit_more _ (pulseBegin s) (by exact counted ▸ more)]
    rfl
  · rw [sircBit_done _ (pulseBegin s) (by exact counted ▸ last), setWidth_eq_zeros_append 4]
    rfl

/-! ## RC5 (41_rc5_collector.md) -/

theorem shifted_eq (acc : BitVec 32) (b : Bool) : shifted acc b = shiftBit acc b := by
  refine BitVec.eq_of_getLsbD_eq fun j inside => ?_
  rw [shiftBit_getLsbD acc b inside, shifted, BitVec.getLsbD_append]
  cases j with
  | zero => cases b <;> rfl
  | succ j => simp [show j < 31 by omega]

/-- `RC5ACC` at the last bit, after the bits a row has already shifted in (R122). -/
theorem rc5Acc_last {s : State} {acc : BitVec 32} {idx : BitVec 6} (b : Bool) (rest : State → State)
    (last : (idx + 1).toNat = s.params.rc5Bits) :
    rc5Acc b rest { s with prod := { s.prod with irArmed := true, acc := acc, idx := idx }, outp := {} } =
      { s with
        prod := afterEmit s.params.cntMax (some (0#11 ++ (shifted acc b).extractLsb' 0 13)) { s.prod with irArmed := true }
        outp := emitOutputs s .ok } := by
  rw [rc5Acc_done b rest _ last, setWidth_eq_zeros_append 11, shifted_eq]
  rfl

/-- `RC5ACC` before the last bit, after the bits a row has already shifted in (R122). -/
theorem rc5Acc_notLast {s : State} {acc : BitVec 32} {idx : BitVec 6} (b : Bool) (rest : State → State)
    (more : (idx + 1).toNat ≠ s.params.rc5Bits) :
    rc5Acc b rest { s with prod := { s.prod with irArmed := true, acc := acc, idx := idx }, outp := {} } =
      rest { s with prod := { s.prod with irArmed := true, acc := shifted acc b, idx := idx + 1 }, outp := {} } := by
  rw [rc5Acc_more b rest _ more, shifted_eq]
  rfl

/-- A row that shifts in one bit and goes to `d`. -/
theorem oneBit_effects {r : PulseRow} {b : Bool} {d : DState} {s : State} {w : Width} (wf : s.params.wf = true)
    (row : InRow s.params s.prod.dstate w r) (action : rowAction r = rc5Acc b (goto d)) :
    (s.prod.idx.toNat + 1 < s.params.rc5Bits → PulseEffect r.instr w s
      { s.prod with irArmed := true, dstate := d, acc := shifted s.prod.acc b, idx := s.prod.idx + 1 } {}) ∧
    (s.prod.idx.toNat + 1 = s.params.rc5Bits → PulseEffect r.instr w s
      (afterEmit s.params.cntMax (some (0#11 ++ (shifted s.prod.acc b).extractLsb' 0 13)) { s.prod with irArmed := true })
      (emitOutputs s .ok)) := by
  obtain ⟨-, -, -, fits⟩ := frameBits_of_wf wf
  have counted (room : s.prod.idx.toNat < s.params.rc5Bits) : (s.prod.idx + 1).toNat = s.prod.idx.toNat + 1 :=
    idx_succ room (by omega)
  refine ⟨fun more => ?_, fun last => ?_⟩ <;> refine pulseEffect_of_inRow wf row ?_ <;> rw [action]
  · have notLast : (s.prod.idx + 1).toNat ≠ s.params.rc5Bits := by rw [counted (by omega)]; omega
    exact rc5Acc_notLast b (goto d) notLast
  · exact rc5Acc_last b (goto d) (by rw [counted (by omega), last])

/-- Settles O21. -/
theorem rc5OneBitRows : Obligations.Rc5OneBitRows := by
  intro s w row b d wf rows
  rcases rows with ⟨mid, t1, rfl, rfl, rfl⟩ | ⟨mid, t15, rfl, rfl, rfl⟩ | ⟨start, t1, rfl, rfl, rfl⟩
  · exact oneBit_effects (r := .rc5Mid1T1) wf ⟨mid, t1⟩ rfl
  · exact oneBit_effects (r := .rc5Mid1T15) wf ⟨mid, t15⟩ rfl
  · exact oneBit_effects (r := .rc5Start0T1) wf ⟨start, t1⟩ rfl

/-- A row that shifts in a 0 and a 1 and rests in `Rc5Mid1`. -/
theorem twoBit_effects {r : PulseRow} {s : State} {w : Width} (wf : s.params.wf = true)
    (row : InRow s.params s.prod.dstate w r) (action : rowAction r = rc5Acc false (rc5Acc true (goto .rc5Mid1))) :
    (s.prod.idx.toNat + 2 < s.params.rc5Bits → PulseEffect r.instr w s
      { s.prod with
        irArmed := true, dstate := .rc5Mid1, acc := shifted (shifted s.prod.acc false) true
        idx := s.prod.idx + 2 } {}) ∧
    (s.prod.idx.toNat + 2 = s.params.rc5Bits → PulseEffect r.instr w s
      (afterEmit s.params.cntMax (some (0#11 ++ (shifted (shifted s.prod.acc false) true).extractLsb' 0 13))
        { s.prod with irArmed := true }) (emitOutputs s .ok)) ∧
    (s.prod.idx.toNat + 1 = s.params.rc5Bits → PulseEffect r.instr w s
      (afterEmit s.params.cntMax (some (0#11 ++ (shifted s.prod.acc false).extractLsb' 0 13)) { s.prod with irArmed := true })
      (emitOutputs s .ok)) := by
  obtain ⟨-, -, -, fits⟩ := frameBits_of_wf wf
  have first (room : s.prod.idx.toNat < s.params.rc5Bits) : (s.prod.idx + 1).toNat = s.prod.idx.toNat + 1 :=
    idx_succ room (by omega)
  have second (room : s.prod.idx.toNat + 1 < s.params.rc5Bits) : (s.prod.idx + 1 + 1).toNat = s.prod.idx.toNat + 2 := by
    have one := first (by omega)
    rw [idx_succ (i := s.prod.idx + 1) (n := s.params.rc5Bits) (by omega) (by omega), one]
  have begun : rowAction r (pulseBegin s) = rc5Acc false (rc5Acc true (goto .rc5Mid1)) (pulseBegin s) := by rw [action]
  refine ⟨fun more => ?_, fun last => ?_, fun last => ?_⟩ <;> refine pulseEffect_of_inRow wf row (begun.trans ?_)
  · have notFirst : (s.prod.idx + 1).toNat ≠ s.params.rc5Bits := by rw [first (by omega)]; omega
    have notSecond : (s.prod.idx + 1 + 1).toNat ≠ s.params.rc5Bits := by rw [second (by omega)]; omega
    refine (rc5Acc_notLast false _ notFirst).trans ((rc5Acc_notLast true _ notSecond).trans ?_)
    rw [BitVec.add_assoc]
    rfl
  · have notFirst : (s.prod.idx + 1).toNat ≠ s.params.rc5Bits := by rw [first (by omega)]; omega
    exact (rc5Acc_notLast false _ notFirst).trans (rc5Acc_last true _ (by rw [second (by omega), last]))
  · exact rc5Acc_last false _ (by rw [first (by omega), last])

/-- Settles O22. -/
theorem rc5TwoBitRows : Obligations.Rc5TwoBitRows := by
  intro s w row wf rows
  rcases rows with ⟨mid, t2, rfl⟩ | ⟨start, t15, rfl⟩
  · exact twoBit_effects (r := .rc5Mid1T2) wf ⟨mid, t2⟩ rfl
  · exact twoBit_effects (r := .rc5Start0T15) wf ⟨start, t15⟩ rfl

end Sys2Proof.Proofs
end

section
/-! PROOFS. Whole collections (42_sirc_collector.md, 43_nec_collector.md): what a two-level collector holds after a run of in-window
pulses, by one induction over the pulses for both. -/

namespace Sys2Proof.Proofs

open Sys2Proof Sys2Proof.Machine Sys2Proof.Claims

/-! ## What a collector holds -/

/-- The collector `d` holds these bits, the first one least significant, and counts them. -/
def HoldsBits (d : DState) (bits : List Bool) (s : State) : Prop :=
  s.prod.dstate = d ∧ s.prod.idx.toNat = bits.length ∧ ∀ j, j < 32 → s.prod.acc.getLsbD j = bits.getD j false

theorem holdsBits_start {d : DState} {s : State} (dstate : s.prod.dstate = d) (acc : s.prod.acc = 0) (idx : s.prod.idx = 0) :
    HoldsBits d [] s := by
  refine ⟨dstate, by rw [idx]; rfl, fun j _ => ?_⟩
  rw [acc]
  simp

/-- What a collection leaves alone: of the producer all but `IR_ARMED`, `ACC` and `IDX`, the parameters and the classifier. -/
structure CollectFrame (s t : State) : Prop where
  prod : t.prod = { s.prod with irArmed := t.prod.irArmed, acc := t.prod.acc, idx := t.prod.idx }
  params : t.params = s.params
  cls : t.cls = s.cls

theorem CollectFrame.refl (s : State) : CollectFrame s s := ⟨rfl, rfl, rfl⟩

theorem CollectFrame.trans {s t u : State} (h : CollectFrame s t) (k : CollectFrame t u) : CollectFrame s u := by
  refine ⟨?_, k.params.trans h.params, k.cls.trans h.cls⟩
  rw [k.prod, h.prod]

theorem CollectFrame.regImage_eq {s t : State} (h : CollectFrame s t) : regImage t.prod = regImage s.prod := by
  rw [h.prod]
  exact regImage_congr rfl rfl rfl rfl rfl rfl

theorem getD_append_singleton (bits : List Bool) (b : Bool) (j : Nat) :
    (bits ++ [b]).getD j false = if j = bits.length then b else bits.getD j false := by
  rcases Nat.lt_trichotomy j bits.length with h | h | h
  · rw [if_neg (by omega), List.getD_append _ _ _ _ h]
  · rw [if_pos h, h, List.getD_append_right _ _ _ _ (Nat.le_refl _), Nat.sub_self]
    rfl
  · rw [if_neg (by omega), List.getD_eq_default _ _ (by simp; omega), List.getD_eq_default _ _ (by omega)]

/-- A bit placed at the count is the next bit held. -/
theorem getLsbD_of_bitPlaced {bits : List Bool} {b : Bool} {acc acc' : BitVec 32} {i : Nat} (count : i = bits.length)
    (held : ∀ j, j < 32 → acc.getLsbD j = bits.getD j false) (placed : BitPlaced acc acc' i b) :
    ∀ j, j < 32 → acc'.getLsbD j = (bits ++ [b]).getD j false := by
  intro j inside
  rw [placed j inside, getD_append_singleton, count, held j inside]

/-! ## Runs -/

theorem runEvents_cons_next {i : Instr} {rest : List Instr} {s t : State} (first : exec i s = .next t) :
    runEvents (i :: rest) s = runEvents rest t := by
  rw [runEvents, first]

theorem runEvents_append {is js : List Instr} {s t : State} (first : runEvents is s = .next t) :
    runEvents (is ++ js) s = runEvents js t := by
  induction is generalizing s with
  | nil =>
    cases first
    rfl
  | cons i is ih =>
    rw [runEvents] at first
    split at first
    next u ran => rw [List.cons_append, runEvents_cons_next ran, ih first]
    next => cases first
    next => cases first

/-- One in-window pulse of a collector for frames of `n` bits, before the last bit. -/
def CollectsOne (d : DState) (n : Nat) (inside : Width → Prop) (bitOf : Width → Bool) (p : Params) : Prop :=
  ∀ s w bits, s.params = p → HoldsBits d bits s → bits.length + 1 < n → inside w →
    ∃ t, exec (.pulse w) s = .next t ∧ HoldsBits d (bits ++ [bitOf w]) t ∧ CollectFrame s t

/-- In-window pulses before the last bit run through, and the collector holds their bits. -/
theorem runEvents_collect {d : DState} {n : Nat} {inside : Width → Prop} {bitOf : Width → Bool} {p : Params}
    (one : CollectsOne d n inside bitOf p) (ws : List Width) {s : State} {bits : List Bool} (params : s.params = p)
    (holds : HoldsBits d bits s) (room : bits.length + ws.length + 1 ≤ n) (allInside : ∀ w ∈ ws, inside w) :
    ∃ t, runEvents (ws.map .pulse) s = .next t ∧ HoldsBits d (bits ++ ws.map bitOf) t ∧ CollectFrame s t := by
  induction ws generalizing s bits with
  | nil => exact ⟨s, rfl, by simpa using holds, CollectFrame.refl s⟩
  | cons w ws ih =>
    rw [List.length_cons] at room
    rw [List.forall_mem_cons] at allInside
    obtain ⟨thisInside, restInside⟩ := allInside
    obtain ⟨t, ran, held, frame⟩ := one s w bits params holds (by omega) thisInside
    have room' : (bits ++ [bitOf w]).length + ws.length + 1 ≤ n := by
      rw [List.length_append, List.length_singleton]
      omega
    obtain ⟨u, ranRest, heldRest, frameRest⟩ := ih (frame.params.trans params) held room' restInside
    refine ⟨u, (runEvents_cons_next ran).trans ranRest, ?_, frame.trans frameRest⟩
    rwa [List.append_assoc, List.singleton_append] at heldRest

/-! ## NEC -/

theorem collectsOne_nec {p : Params} (wf : p.wf = true) :
    CollectsOne .necCollect p.necBits (Within p.necBit) (fun w => decide (p.necThr ≤ w.toNat)) p := by
  rintro s w bits rfl ⟨collecting, count, held⟩ more inside
  obtain ⟨-, fits, -⟩ := frameBits_of_wf wf
  obtain ⟨acc, placed, ran, -⟩ := necPulsePlacesABit s w wf collecting (by omega) inside
  refine ⟨_, ran, ⟨collecting, ?_, getLsbD_of_bitPlaced count held placed⟩, rfl, rfl, rfl⟩
  rw [List.length_append, List.length_singleton, ← count]
  exact idx_succ (n := s.params.necBits) (by omega) (by omega)

/-- Settles O25: the induction over the pulses, from an empty accumulator. -/
theorem necCollectionHoldsItsBits : Obligations.NecCollectionHoldsItsBits := by
  intro s ws wf collecting acc idx room allInside
  obtain ⟨t, ran, ⟨dstate, count, held⟩, frame⟩ := runEvents_collect (collectsOne_nec wf) ws rfl
    (holdsBits_start collecting acc idx) (by simpa using room) allInside
  rw [List.nil_append] at count held
  exact ⟨t, ran, dstate, by rw [count, List.length_map], held, frame.regImage_eq, frame.cls⟩

/-! ## SIRC -/

theorem collectsOne_sirc {p : Params} (wf : p.wf = true) :
    CollectsOne .sircCollect p.sircBits (Within p.sircBit) (fun w => decide (p.sircThr ≤ w.toNat)) p := by
  rintro s w bits rfl ⟨collecting, count, held⟩ more inside
  obtain ⟨-, fits⟩ := sircBits_of_wf wf
  obtain ⟨acc, placed, places, -⟩ := sircPulsePlacesABitOrEmits s w wf collecting (by omega) inside
  obtain ⟨ran, -⟩ := places (by omega)
  refine ⟨_, ran, ⟨collecting, ?_, getLsbD_of_bitPlaced count held placed⟩, rfl, rfl, rfl⟩
  rw [List.length_append, List.length_singleton, ← count]
  exact idx_succ (n := s.params.sircBits) (by omega) (by omega)

/-- The SIRC payload holds the bits of its frame (30_encoding.md R92). -/
theorem sircPayload_getLsbD {acc : BitVec 32} {bits : List Bool} (held : ∀ j, j < 32 → acc.getLsbD j = bits.getD j false)
    (short : bits.length ≤ 20) {j : Nat} (inside : j < 24) :
    (0#4 ++ acc.extractLsb' 0 20).getLsbD j = bits.getD j false := by
  refine (BitVec.getLsbD_append (x := 0#4) (y := acc.extractLsb' 0 20) (i := j)).trans ?_
  by_cases low : j < 20
  · rw [if_pos low, ← held j (by omega), BitVec.getLsbD_extractLsb', Nat.zero_add, decide_eq_true low, Bool.true_and]
  · rw [if_neg low, List.getD_eq_default _ _ (by omega), BitVec.getLsbD_zero]

/-- Settles O26: the frame but its last bit is collected, and the last bit emits. -/
theorem sircFrameDeliversItsBits : Obligations.SircFrameDeliversItsBits := by
  intro s ws wf collecting acc idx length allInside
  obtain ⟨atLeastOne, atMost20⟩ := sircBits_of_wf wf
  obtain ⟨init, w, rfl⟩ : ∃ init w, ws = init ++ [w] := by
    rcases List.eq_nil_or_concat ws with rfl | ⟨init, w, rfl⟩
    · rw [List.length_nil] at length
      omega
    · exact ⟨init, w, List.concat_eq_append⟩
  rw [List.length_append, List.length_singleton] at length
  rw [List.forall_mem_append, List.forall_mem_singleton] at allInside
  obtain ⟨initInside, lastInside⟩ := allInside
  obtain ⟨t, ran, ⟨dstate, count, held⟩, frame⟩ := runEvents_collect (collectsOne_sirc wf) init rfl
    (holdsBits_start collecting acc idx) (by simp; omega) initInside
  rw [List.nil_append] at count held
  have last : t.prod.idx.toNat + 1 = t.params.sircBits := by rw [count, List.length_map, frame.params, length]
  obtain ⟨acc', placed, -, emits⟩ := sircPulsePlacesABitOrEmits t w (frame.params ▸ wf) dstate (by omega)
    (frame.params.symm ▸ lastInside)
  obtain ⟨ranLast, -⟩ := emits last
  have held' := getLsbD_of_bitPlaced count held placed
  rw [frame.params] at held'
  have cnt : t.prod.cnt = s.prod.cnt := by rw [frame.prod]
  have btn : t.prod.btn = s.prod.btn := by rw [frame.prod]
  have dirA : t.prod.dirA = s.prod.dirA := by rw [frame.prod]
  have dirB : t.prod.dirB = s.prod.dirB := by rw [frame.prod]
  have run := (runEvents_append (js := [.pulse w]) ran).trans (runEvents_cons_next ranLast)
  simp only [List.map_append, List.map_singleton]
  refine ⟨_, run, rfl, rfl, rfl, fun j inside => ?scan, ?cnt, rfl, rfl, btn, dirA, dirB⟩
  case scan => exact sircPayload_getLsbD held' (by simp; omega) inside
  case cnt =>
    rw [← cnt, ← frame.params]
    rfl

end Sys2Proof.Proofs
end
